-- ==== Sys2Proof/Word.lean ====
section
/-! DEFINITION. The words of the machine: bytes of the buffers `IN` and `BODY`, 16-bit fields of a frame and of a
command, and the 32-bit words of the sample buffer (00_scope.md R7, R8). -/

namespace Sys2Proof

/-- A byte of a buffer: an unsigned integer 0..255 (R8). -/
abbrev Byte := BitVec 8

/-- A 16-bit field: the header `H`, the item code, the sequence number, the width operand (R8, R14, R51). -/
abbrev Half := BitVec 16

/-- A 32-bit word of `SAMPLES`; its value as a sample is its two's-complement reading (R18, D20). -/
abbrev Word := BitVec 32

end Sys2Proof
end

