-- ==== Sys2Proof/Config.lean ====
section
/-! DEFINITION. The parameters of NSD (00_scope.md R7): the fixed numbers, the open item-code table
(10_state.md R21), and the values the spec leaves `unspecified` (00_scope.md R8), each an opaque constant. -/

namespace Sys2Proof.Config

/-- `HDR_BYTES`: the bytes of the frame header (R7). -/
@[simp] abbrev hdrBytes : Nat := 2

/-- `FIELD2_BYTES`: the bytes of the item-code or sequence-number field (R7). -/
@[simp] abbrev field2Bytes : Nat := 2

/-- `MAX_LEN`: the largest value of the 13-bit length field (R7, R61). -/
@[simp] abbrev maxLen : Nat := 8191

/-- `CI_MIN_LEN`: the smallest well-formed control-item frame (R7, R56). -/
@[simp] abbrev ciMinLen : Nat := 4

/-- `DI_MIN_LEN`: the smallest frame the reference encoder of data items produces (R7, R143). -/
@[simp] abbrev diMinLen : Nat := 2

/-- `DEC_MIN_LEN`: the smallest frame `DECODE` accepts, in either family (R7, R84, decision D6). -/
@[simp] abbrev decMinLen : Nat := 4

/-- The largest value of the 16-bit `IN_LEN` (R13, decision D19). -/
@[simp] abbrev maxInLen : Nat := 65535

/-- The largest value of the 16-bit operand `bit_width` (R14, decision D12). -/
@[simp] abbrev maxBitWidth : Nat := 65535

/-- The six names of the closed item-code set (30_encoding.md R58, conflict C4, decision D23). -/
inductive ItemName where
  | receiverState
  | receiverFrequency
  | sampleRate
  | rfFilter
  | adMode
  /-- The sentinel "none" that a data-item message reports. -/
  | noneItem
deriving DecidableEq, Repr

/-- Every name of the set. -/
def itemNames : List ItemName :=
  [.receiverState, .receiverFrequency, .sampleRate, .rfFilter, .adMode, .noneItem]

/-- The 16-bit pattern of each named item code: OPEN in the spec (R7, R21, decisions D3, D4), so nothing is known of it
here; two names may even share a value. -/
opaque itemCode : ItemName → Half

/-- The pair of parameters every decode rule is stated over: the set `KNOWN_CODES` and its member `NONE_CODE` (R7, R21).
Codes are held as their 16-bit two's-complement patterns; equality of patterns is equality of the signed values (R57). -/
structure CodeTable where
  known : List Half
  noneCode : Half
deriving DecidableEq, Repr

/-- The block's own table: the six named codes, and the one named none (R58). -/
def codes : CodeTable :=
  { known := itemNames.map itemCode, noneCode := itemCode .noneItem }

/-! The `unspecified` values (R8, 93_implementation_defined.md U1, U8, U11). Each takes the number of a draw; the state
holds the counter of draws. -/

/-- `MSG_TYPE` when a rule leaves it unspecified. -/
opaque freeMsgType : Nat → BitVec 3
/-- `ITEM_CODE` when a rule leaves it unspecified. -/
opaque freeItemCode : Nat → Half
/-- `SEQ_NUM` when a rule leaves it unspecified. -/
opaque freeSeqNum : Nat → Half
/-- `BODY_LEN` when a rule leaves it unspecified. -/
opaque freeBodyLen : Nat → BitVec 13
/-- `SAMPLE_COUNT` when a rule leaves it unspecified. -/
opaque freeSampleCount : Nat → Half
/-- `IN_LEN` after a reset in the middle of a run. -/
opaque freeInLen : Nat → Half
/-- The byte of `IN` at an offset that nothing has written since reset number `draw`. -/
opaque freeInByte : (draw offset : Nat) → Byte
/-- The byte of `BODY` at an offset that holds no result. -/
opaque freeBodyByte : (draw offset : Nat) → Byte
/-- The word of `SAMPLES` at an index that holds no result. -/
opaque freeSample : (draw index : Nat) → Word
/-- What a host read returns where the output is unspecified; the port keeps the low bits it is wide. -/
opaque freeRead : Nat → Word

end Sys2Proof.Config
end

