-- ==== Sys2Proof/Machine/State.lean ====
section
/-! DEFINITION. The state of NSD (10_state.md): the host's inputs, the results of the frame decoder and of the sample
unpacker, the control and status registers, and, marked as the MODEL's own, what the spec's words need beside them
(the host's pending actions, the sink's history, the counter of unspecified values). -/

namespace Sys2Proof.Machine

/-- A buffer as the cells that hold a value, by rising address. An address that is not listed holds no specified value:
reading it gives an unspecified one (93_implementation_defined.md U8, U11; log entry 5). -/
abbrev Cells (α : Type) := List (Nat × α)

/-- A byte buffer (`IN`, `BODY`): 20_memory.md R30. -/
abbrev Memory := List Host.Cell

/-- The addresses rise strictly and stay below `bound`: the canonical form. As an unlisted address has no value, no cell
can repeat one. -/
def Cells.wf {α : Type} (bound : Nat) : Cells α → Bool
  | [] => true
  | [c] => decide (c.1 < bound)
  | c :: d :: rest => decide (c.1 < d.1) && Cells.wf bound (d :: rest)

/-- The canonical form of a byte buffer of `bound` bytes. -/
def Memory.wf (bound : Nat) (m : Memory) : Bool := Cells.wf bound m

/-- The error taxonomy (60_exceptions.md R160, R161). `NotConnected` is outside the block (R175). -/
inductive Cause where
  | noError
  | framingError
  | unknownItemCode
  | unsupportedSampleWidth
  /-- Raised by the reference encoders only, never by the block (R165). -/
  | lengthExceeded
deriving DecidableEq, Repr

/-- A command as the host presents it (R14). -/
structure Command where
  cmd : BitVec 2
  bitWidth : Half
deriving DecidableEq, Repr

/-- The result outputs a host can read (R27). The outputs to the sink are not among them. -/
inductive Port where
  | busy
  | done
  | dValid
  | dCause
  | msgType
  | family
  | itemCode
  | seqNum
  | bodyLen
  | bodyByte (addr : BitVec 13)
  | xOk
  | xCause
  | sampleCount
  | sample (addr : Half)
deriving DecidableEq, Repr

/-- What the host can do between two steps of the block (R136), with the lines of an operation script (R75) among them. -/
inductive HostAction where
  /-- A command line of a script: presented and run to completion (R75, R135). -/
  | issue (c : Command)
  /-- A command presented on the port, and no wait for `done` (R135, first half). -/
  | present (c : Command)
  /-- The host waits for `done` (R135, R195). -/
  | wait
  /-- The write port of `IN` (R27). -/
  | writeByte (addr : Half) (data : Byte)
  /-- The write port of `IN_LEN` (R27). -/
  | writeLen (len : Half)
  /-- The script line `LOAD` (R75). -/
  | load (bytes : List Byte)
  /-- A read of a result output (R136, R196). -/
  | read (port : Port)
  /-- The input `rst` (R190, R191). -/
  | reset
deriving DecidableEq, Repr

/-- A sink event: the sequence number and the samples as signed 32-bit integers, in order (R134). -/
structure SinkEvent where
  sequenceNumber : Half
  samples : List Int
deriving DecidableEq, Repr

/-- The state of the machine. -/
structure State where
  /-- `IN`: the bytes the host has written (R13, R30). -/
  inMem : Memory
  /-- `IN_LEN` (R13). -/
  inLen : Half
  /-- MODEL's own: the number of the draw that stands for the bytes of `IN` nothing has written since reset (U8). -/
  inGen : Nat
  /-- `D_VALID` (R15). -/
  dValid : Bool
  /-- `D_CAUSE` (R15, R161). -/
  dCause : BitVec 3
  /-- `MSG_TYPE`; `FAMILY` is its bit 2 (R17). -/
  msgType : BitVec 3
  /-- `ITEM_CODE`, as its 16-bit pattern (R17). -/
  itemCode : Half
  /-- `SEQ_NUM` (R17). -/
  seqNum : Half
  /-- `BODY` (R16). -/
  body : Memory
  /-- `BODY_LEN` (R16). -/
  bodyLen : BitVec 13
  /-- `X_OK` (R19). -/
  xOk : Bool
  /-- `X_CAUSE` (R19, R161). -/
  xCause : BitVec 3
  /-- `SAMPLES` (R18). -/
  samples : Cells Word
  /-- `SAMPLE_COUNT` (R18). -/
  sampleCount : Half
  /-- `SAMPLE_WIDTH_CFG` (R20). -/
  sampleWidthCfg : Half
  /-- The command sampled at issue, held while its operation is in progress and not after (R14, R22). `BUSY` is the
  presence of a command here: `State.busy`. -/
  inFlight : Option Command
  /-- The output `done`: the last action of the host saw an operation complete (R22, R27). -/
  done : Bool
  /-- The output `sink_valid`: the operation that completed emitted a sink event (R27, R134). -/
  sinkValid : Bool
  /-- MODEL's own: the append-only history of sink events (R134, U6). -/
  sinkLog : List SinkEvent
  /-- MODEL's own: the value the host's last read returned, zero-extended (R136). -/
  hostRead : Word
  /-- MODEL's own: how many draws of unspecified values have been made (R8, U1). -/
  draws : Nat
  /-- MODEL's own: what the host will do, its next action first (R11, R75, R135). The block has no queue of commands
  (R195): this is the environment, not a buffer of the block. -/
  script : List HostAction
deriving DecidableEq, Repr

/-- Reasons the machine stops. A failed operation is none of them: it completes with a status (R166, R167, R171). -/
inductive Fault where
  /-- Raised by the host action `LOAD` with more than 65535 bytes: the offsets beyond lie outside the address space `IN`
  (R13, R30; DESIGN CHOICE, log entry 10). Safe: nothing can be proved across it. -/
  | inputOutsideBuffer
deriving DecidableEq, Repr

/-- Host behaviour the spec gives no meaning and asks a model to refuse (93_implementation_defined.md U9). -/
inductive Refusal where
  /-- An instruction without a meaning: raised by no arm of `exec`. Safe. -/
  | notModelled (mnemonic : String)
  /-- Raised by the host actions that present a command while `BUSY = 1` (R195). Safe. -/
  | commandWhileBusy
  /-- Raised by the host actions that write `IN` or `IN_LEN` while `BUSY = 1` (R194). Safe. -/
  | inputWriteWhileBusy
deriving DecidableEq, Repr

/-- `BUSY`: an operation is in progress (R22). -/
def State.busy (s : State) : Bool := s.inFlight.isSome

/-- The machine right after reset (R24, R190). The spec gives `D_VALID`, `D_CAUSE`, `X_OK`, `X_CAUSE`,
`SAMPLE_WIDTH_CFG`, `BUSY`; the zeros of `IN_LEN`, `MSG_TYPE`, `ITEM_CODE`, `SEQ_NUM`, `BODY_LEN`, `SAMPLE_COUNT`, where
it says `unspecified`, are the model's (DESIGN CHOICE, unsafe: log entry 1), and the buffers list nothing. The model's own
fields start empty (DESIGN CHOICE: log entry 2). -/
def State.reset : State where
  inMem := []
  inLen := 0
  inGen := 0
  dValid := false
  dCause := 0
  msgType := 0
  itemCode := 0
  seqNum := 0
  body := []
  bodyLen := 0
  xOk := false
  xCause := 0
  samples := []
  sampleCount := 0
  sampleWidthCfg := 0
  inFlight := none
  done := false
  sinkValid := false
  sinkLog := []
  hostRead := 0
  draws := 1
  script := []

end Sys2Proof.Machine
end

