-- ==== Sys2Proof/Machine/Flags.lean ====
section
/-! DEFINITION. The status flags: the codes of the causes and the values of `D_VALID`, `D_CAUSE`, `X_OK`, `X_CAUSE`
(10_state.md R15, R19, R23; 60_exceptions.md R161). -/

namespace Sys2Proof.Machine

/-- The 3-bit code of a cause (R161, decision D8). -/
def causeCode : Cause → BitVec 3
  | .noError => 0
  | .framingError => 1
  | .unknownItemCode => 2
  | .unsupportedSampleWidth => 3
  | .lengthExceeded => 4

/-- `FAMILY = MSG_TYPE[2]`: false for the control-item family, true for the data-item family (R17, R54). -/
def familyBit (type : BitVec 3) : Bool := type.getLsbD 2

/-- The status of a decode that ended with `cause`, as (`D_VALID`, `D_CAUSE`): valid exactly where there is no error
(R15). -/
def decodeStatus (cause : Cause) : Bool × BitVec 3 := (cause == .noError, causeCode cause)

/-- The status of an extraction that ended with `cause`, as (`X_OK`, `X_CAUSE`) (R19). -/
def extractStatus (cause : Cause) : Bool × BitVec 3 := (cause == .noError, causeCode cause)

/-- The status of an extraction that did not run, as (`X_OK`, `X_CAUSE`): after reset, and in a `STREAM` that did not
reach its extraction step (R19, R132). -/
def extractNotRun : Bool × BitVec 3 := (false, causeCode .noError)

end Sys2Proof.Machine
end

