-- ==== Sys2Proof/Syntax.lean ====
section
/-! DEFINITION. The instructions of NSD: one constructor for each row of spec/opcode_table.json, at the three levels of
00_scope.md R2. -/

namespace Sys2Proof

/-- The three encoding spaces (R2): the command port, the frame header, the sample-width operand. -/
inductive Level where
  | command
  | header
  | width
deriving DecidableEq, Repr

/-- An instruction. A message type carries the `totalLength` its header declares; the rest of the frame (field2 and the
bytes after it) is read from `IN` when it runs, as R88 to R95 give its operands. `EXTRACT` and `CFGW` carry the operand
`bit_width`; `DECODE` and `STREAM` ignore theirs (R14, R63). -/
inductive Instr where
  /-- Message type 0, control-item family (R88). -/
  | setControlItem (totalLength : Nat)
  /-- Message type 1, control-item family (R89). -/
  | currentControlItem (totalLength : Nat)
  /-- Message type 2, control-item family (R90). -/
  | controlItemRange (totalLength : Nat)
  /-- Message type 3, control-item family (R91). -/
  | ack (totalLength : Nat)
  /-- Message type 4, data-item family (R92). -/
  | dataItem0 (totalLength : Nat)
  /-- Message type 5, data-item family (R93). -/
  | dataItem1 (totalLength : Nat)
  /-- Message type 6, data-item family (R94). -/
  | dataItem2 (totalLength : Nat)
  /-- Message type 7, data-item family (R95). -/
  | dataItem3 (totalLength : Nat)
  /-- Sample width 8, one byte a sample (R117). -/
  | extract8
  /-- Sample width 16, two bytes a sample (R118). -/
  | extract16
  /-- Sample width 24, three bytes a sample (R119). -/
  | extract24
  /-- Sample width 32, four bytes a sample (R120). -/
  | extract32
  /-- Operation `DECODE` (R80). -/
  | decode
  /-- Operation `EXTRACT` (R110). -/
  | extract (bitWidth : Nat)
  /-- Operation `STREAM` (R132). -/
  | stream
  /-- Operation `CFGW` (R133). -/
  | cfgw (bitWidth : Nat)
deriving DecidableEq, Repr

/-- The encoding space an instruction's row belongs to. -/
def Instr.level : Instr → Level
  | .setControlItem _ => .header
  | .currentControlItem _ => .header
  | .controlItemRange _ => .header
  | .ack _ => .header
  | .dataItem0 _ => .header
  | .dataItem1 _ => .header
  | .dataItem2 _ => .header
  | .dataItem3 _ => .header
  | .extract8 => .width
  | .extract16 => .width
  | .extract24 => .width
  | .extract32 => .width
  | .decode => .command
  | .extract _ => .command
  | .stream => .command
  | .cfgw _ => .command

end Sys2Proof
end

