-- ==== Sys2Proof/WellFormed.lean ====
section
/-! DEFINITION. Which instructions have an encoding: a declared length fits its 13-bit field (R61) and a width operand its
16 bits (R14). -/

namespace Sys2Proof

/-- A declared `totalLength` fits the 13-bit length field (R51, R61). -/
def lengthFits (totalLength : Nat) : Bool := decide (totalLength ≤ Config.maxLen)

/-- A `bit_width` operand fits its 16 bits (R14). -/
def bitWidthFits (bitWidth : Nat) : Bool := decide (bitWidth ≤ Config.maxBitWidth)

/-- The instruction has an encoding. -/
def Instr.wellFormed : Instr → Bool
  | .setControlItem n => lengthFits n
  | .currentControlItem n => lengthFits n
  | .controlItemRange n => lengthFits n
  | .ack n => lengthFits n
  | .dataItem0 n => lengthFits n
  | .dataItem1 n => lengthFits n
  | .dataItem2 n => lengthFits n
  | .dataItem3 n => lengthFits n
  | .extract8 => true
  | .extract16 => true
  | .extract24 => true
  | .extract32 => true
  | .decode => true
  | .extract n => bitWidthFits n
  | .stream => true
  | .cfgw n => bitWidthFits n

/-- `Instr.wellFormed`, as a proposition. -/
abbrev Instr.WellFormed (i : Instr) : Prop := i.wellFormed = true

end Sys2Proof
end

