-- ==== Sys2Proof/Decode.lean ====
section
/-! DEFINITION. The decoder and the encoder of the three encoding spaces (30_encoding.md sections 1 and 5). Each space is
read by its own rule; nothing in a header can be mistaken for a width operand or a command, because the machine knows
which of the three it is reading (R55, R62, R63). -/

namespace Sys2Proof

/-- Why bytes are no instruction of a level. -/
inductive DecodeError where
  /-- Fewer bytes than the level's fixed part (R64, first row; for a command, bytes of the pair are missing). -/
  | shortInput
  /-- The operand is none of 8, 16, 24, 32 (R62, R64, R121). -/
  | unsupportedSampleWidth (bitWidth : Nat)
deriving DecidableEq, Repr

/-- The 16-bit value of two bytes, the first the less significant (R32). -/
def halfOfBytes (b0 b1 : Byte) : Half := b1 ++ b0

/-- The two bytes of a 16-bit value, the less significant first (R32). -/
def bytesOfHalf (h : Half) : List Byte := [h.extractLsb' 0 8, h.extractLsb' 8 8]

/-- `type = H[15:13]` (R51). -/
def headerType (h : Half) : BitVec 3 := h.extractLsb' 13 3

/-- `totalLength = H[12:0]` (R51). -/
def headerLength (h : Half) : Nat := (h.extractLsb' 0 13).toNat

/-- The header with a given type and length (R51, R141); a length beyond 8191 is cut to its low 13 bits (DESIGN CHOICE:
log entry 17). -/
def headerOf (type : BitVec 3) (totalLength : Nat) : Half := type ++ BitVec.ofNat 13 totalLength

/-- The instruction a message type names; the eight numbers stand in the order of R53 (decision D1). -/
def messageInstr (type : BitVec 3) (totalLength : Nat) : Instr :=
  match type.toNat with
  | 0 => .setControlItem totalLength
  | 1 => .currentControlItem totalLength
  | 2 => .controlItemRange totalLength
  | 3 => .ack totalLength
  | 4 => .dataItem0 totalLength
  | 5 => .dataItem1 totalLength
  | 6 => .dataItem2 totalLength
  | _ => .dataItem3 totalLength

/-- A header is always an instruction: all 8 types and all 8192 lengths are defined (R53, R64). -/
def decodeHeader (h : Half) : Instr := messageInstr (headerType h) (headerLength h)

/-- The operand selects a width by value, without rounding (R62). -/
def decodeWidth (bitWidth : Half) : Except DecodeError Instr :=
  match bitWidth.toNat with
  | 8 => .ok .extract8
  | 16 => .ok .extract16
  | 24 => .ok .extract24
  | 32 => .ok .extract32
  | n => .error (.unsupportedSampleWidth n)

/-- The four commands; none is reserved (R63). -/
def decodeCommand (cmd : BitVec 2) (bitWidth : Half) : Instr :=
  match cmd.toNat with
  | 0 => .decode
  | 1 => .extract bitWidth.toNat
  | 2 => .stream
  | _ => .cfgw bitWidth.toNat

/-- Reads one instruction of a level from the front of `bytes`. A command stands as one byte whose low two bits are
`cmd`, then the two bytes of `bit_width`, low byte first (the layout is the model's: DESIGN CHOICE, log entry 4). -/
def decode (level : Level) (bytes : List Byte) : Except DecodeError (Instr × List Byte) :=
  match level, bytes with
  | .command, c :: b0 :: b1 :: rest => .ok (decodeCommand (c.extractLsb' 0 2) (halfOfBytes b0 b1), rest)
  | .header, b0 :: b1 :: rest => .ok (decodeHeader (halfOfBytes b0 b1), rest)
  | .width, b0 :: b1 :: rest =>
    match decodeWidth (halfOfBytes b0 b1) with
    | .ok i => .ok (i, rest)
    | .error e => .error e
  | _, _ => .error .shortInput

/-- The low `n` bytes of `w`, the least significant first. -/
def bytesOfNat : (n w : Nat) → List Byte
  | 0, _ => []
  | n + 1, w => BitVec.ofNat 8 w :: bytesOfNat n (w / 256)

/-- The instruction in an opcode-table word. A row of the table has 2 bits (a command: one byte, operand bytes zero) or
16. A 16-bit word is read first as a width operand, whose rows fix all 16 bits, and else as a header, whose rows fix
three (the two spaces share words; DESIGN CHOICE, log entry 4). -/
def decodeTableWord (nbits w : Nat) : Option Instr :=
  if nbits ≤ 8 then
    match decode .command (bytesOfNat 1 w ++ bytesOfNat 2 0) with
    | .ok (i, _) => some i
    | .error _ => none
  else if nbits ≤ 16 then
    match decode .width (bytesOfNat 2 w) with
    | .ok (i, _) => some i
    | .error _ =>
      match decode .header (bytesOfNat 2 w) with
      | .ok (i, _) => some i
      | .error _ => none
  else none

/-- The bytes of a command pair. -/
def commandBytes (cmd : BitVec 2) (bitWidth : Half) : List Byte := cmd.setWidth 8 :: bytesOfHalf bitWidth

/-- The bytes of an instruction in its own encoding space (R52, R53, R62, R63); an ill-formed instruction's operand is cut
to its field (DESIGN CHOICE: log entry 17). -/
def encode : Instr → List Byte
  | .setControlItem n => bytesOfHalf (headerOf 0b000#3 n)
  | .currentControlItem n => bytesOfHalf (headerOf 0b001#3 n)
  | .controlItemRange n => bytesOfHalf (headerOf 0b010#3 n)
  | .ack n => bytesOfHalf (headerOf 0b011#3 n)
  | .dataItem0 n => bytesOfHalf (headerOf 0b100#3 n)
  | .dataItem1 n => bytesOfHalf (headerOf 0b101#3 n)
  | .dataItem2 n => bytesOfHalf (headerOf 0b110#3 n)
  | .dataItem3 n => bytesOfHalf (headerOf 0b111#3 n)
  | .extract8 => bytesOfHalf 0x0008#16
  | .extract16 => bytesOfHalf 0x0010#16
  | .extract24 => bytesOfHalf 0x0018#16
  | .extract32 => bytesOfHalf 0x0020#16
  | .decode => commandBytes 0b00#2 0#16
  | .extract n => commandBytes 0b01#2 (BitVec.ofNat 16 n)
  | .stream => commandBytes 0b10#2 0#16
  | .cfgw n => commandBytes 0b11#2 (BitVec.ofNat 16 n)

end Sys2Proof
end

