-- ==== Sys2Proof/Machine/Operands.lean ====
section
/-! DEFINITION. The operand forms: little-endian reads, the fields of a frame, the chunks of a payload, and the byte
sequences an operation reads from a buffer (00_scope.md R8; 20_memory.md R30 to R36). -/

namespace Sys2Proof.Machine

/-- The value a buffer holds at an address, where it holds one. -/
def Cells.read {α : Type} : Cells α → Nat → Option α
  | [], _ => none
  | c :: rest, a => if c.1 = a then some c.2 else Cells.read rest a

/-- `IN[a]`. An offset nothing has written since reset reads as an unspecified byte (U8, R193). -/
def State.inByte (s : State) (a : Nat) : Byte := (Cells.read s.inMem a).getD (Config.freeInByte s.inGen a)

/-- `BODY[a]`, where it holds a result. -/
def State.bodyByte? (s : State) (a : Nat) : Option Byte := Cells.read s.body a

/-- `SAMPLES[i]`, where it holds a result. -/
def State.sample? (s : State) (i : Nat) : Option Word := Cells.read s.samples i

/-- `IN[0 ..< IN_LEN]`: the frame of `DECODE` and `STREAM`, the payload of `EXTRACT` (R13, R80, R110). -/
def State.inBytes (s : State) : List Byte := (List.range s.inLen.toNat).map s.inByte

/-- `BODY[0 ..< BODY_LEN]`: the payload inside `STREAM` (R132). -/
def State.bodyBytes (s : State) : List Byte :=
  (List.range s.bodyLen.toNat).map fun k => (s.bodyByte? k).getD (Config.freeBodyByte s.draws k)

/-- `SAMPLES[0 ..< SAMPLE_COUNT]`, what a sink event carries (R134). -/
def State.sampleWords (s : State) : List Word :=
  (List.range s.sampleCount.toNat).map fun i => (s.sample? i).getD (Config.freeSample s.draws i)

/-- `le(s, 0, len(s))`: the unsigned little-endian value of a byte sequence (R8, R32). -/
def leNat : List Byte → Nat
  | [] => 0
  | b :: rest => b.toNat + 256 * leNat rest

/-- Byte `i` of a sequence; 0 past its end, where no rule reads (R35). -/
def byteAt (bs : List Byte) (i : Nat) : Byte := bs.getD i 0

/-- The header `H = le(F, 0, 2)` (R51). -/
def headerWord (frame : List Byte) : Half := halfOfBytes (byteAt frame 0) (byteAt frame 1)

/-- Field2 `le(F, 2, 2)`: the item code of a control-item frame, the sequence number of a data-item frame (R57, R60). -/
def field2 (frame : List Byte) : Half := halfOfBytes (byteAt frame 2) (byteAt frame 3)

/-- The bytes after field2: `parameters` or `samplePayload` (R56, R59). -/
def frameTail (frame : List Byte) : List Byte := frame.drop (Config.hdrBytes + Config.field2Bytes)

/-- Chunk `i` of a payload at byte width `w`: the bytes at offsets `i·w` to `i·w + w − 1` (R66, R113). -/
def chunkAt (w : Nat) (payload : List Byte) (i : Nat) : List Byte := (payload.drop (i * w)).take w

/-- The byte width a `bit_width` selects; none for an unsupported one (R62, R111, R112). -/
def byteWidth? (bitWidth : Nat) : Option Nat :=
  match bitWidth with
  | 8 => some 1
  | 16 => some 2
  | 24 => some 3
  | 32 => some 4
  | _ => none

end Sys2Proof.Machine
end

