-- ==== Sys2Proof/Machine/Ops.lean ====
section
/-! DEFINITION. The named operations over buffers and registers: writing a buffer, the results of a decode and of an
extraction, the failures (60_exceptions.md R166, R167: the counterpart of taking an exception), acceptance and completion
of an operation (42_stream_and_host_ops.md R135). -/

namespace Sys2Proof.Machine

/-- A write of one cell, which keeps the addresses rising. -/
def Cells.write {α : Type} : Cells α → Nat → α → Cells α
  | [], a, v => [(a, v)]
  | c :: rest, a, v =>
    if a < c.1 then (a, v) :: c :: rest
    else if a = c.1 then (a, v) :: rest
    else c :: Cells.write rest a v

/-- Consecutive cells from an address on. -/
def Cells.ofList {α : Type} (base : Nat) : List α → Cells α
  | [] => []
  | v :: vs => (base, v) :: Cells.ofList (base + 1) vs

/-- Values written from address 0 on; the cells beyond them stay. -/
def Cells.overwrite {α : Type} (m : Cells α) (vs : List α) : Cells α :=
  Cells.ofList 0 vs ++ m.filter fun c => decide (vs.length ≤ c.1)

/-! The updates of the state. -/

/-- The host's pending actions. -/
def State.withScript (s : State) (actions : List HostAction) : State := { s with script := actions }

/-- The pulses `done` and `sink_valid` fall (R27; when they fall is the model's: DESIGN CHOICE, log entry 14). -/
def State.lowerPulses (s : State) : State := { s with done := false, sinkValid := false }

/-- A command is accepted: `BUSY <- 1`, and the pair is sampled (R14, R135). -/
def State.accept (s : State) (c : Command) : State := { s.lowerPulses with inFlight := some c }

/-- The operation has written its results: `BUSY <- 0`, `done`; the command is not retained (R14, R22, R135). -/
def State.complete (s : State) : State := { s with inFlight := none, done := true }

/-- The results of a valid decode (R86, R87). `BODY` holds the body and nothing beyond it (R196). -/
def State.writeDecoded (s : State) (type : BitVec 3) (code seq : Half) (body : List Byte) : State :=
  { s with
    dValid := (decodeStatus .noError).1
    dCause := (decodeStatus .noError).2
    msgType := type
    itemCode := code
    seqNum := seq
    body := Cells.ofList 0 body
    bodyLen := BitVec.ofNat 13 body.length }

/-- `raise Invalid(cause)` (R166): the status is written, the other decoder results become unspecified. -/
def State.raiseInvalid (s : State) (cause : Cause) : State :=
  { s with
    dValid := (decodeStatus cause).1
    dCause := (decodeStatus cause).2
    msgType := Config.freeMsgType s.draws
    itemCode := Config.freeItemCode s.draws
    seqNum := Config.freeSeqNum s.draws
    body := []
    bodyLen := Config.freeBodyLen s.draws
    draws := s.draws + 1 }

/-- The results of a successful extraction (R114). `SAMPLES` holds them and nothing beyond them (R196). -/
def State.writeSamples (s : State) (words : List Word) : State :=
  { s with
    xOk := (extractStatus .noError).1
    xCause := (extractStatus .noError).2
    samples := Cells.ofList 0 words
    sampleCount := BitVec.ofNat 16 words.length }

/-- `raise Fail(cause)` (R167): the status is written, `SAMPLE_COUNT` and `SAMPLES` become unspecified. -/
def State.raiseFail (s : State) (cause : Cause) : State :=
  { s with
    xOk := (extractStatus cause).1
    xCause := (extractStatus cause).2
    samples := []
    sampleCount := Config.freeSampleCount s.draws
    draws := s.draws + 1 }

/-- A `STREAM` that does not reach its extraction step (R132 step 3). -/
def State.skipExtract (s : State) : State :=
  { s with
    xOk := extractNotRun.1
    xCause := extractNotRun.2
    samples := []
    sampleCount := Config.freeSampleCount s.draws
    draws := s.draws + 1 }

/-- One sink event: `SEQ_NUM` and the samples of `SAMPLES[0 ..< SAMPLE_COUNT]` as signed integers (R134). -/
def State.emitSink (s : State) : State :=
  { s with
    sinkValid := true
    sinkLog := s.sinkLog ++ [{ sequenceNumber := s.seqNum, samples := s.sampleWords.map BitVec.toInt }] }

/-- `SAMPLE_WIDTH_CFG <- n`, unchecked (R20, R133). -/
def State.writeWidthCfg (s : State) (n : Half) : State := { s with sampleWidthCfg := n }

/-- The host writes one byte of `IN` (R27, R136), also one at or beyond `IN_LEN`, which is kept (log entry 11). -/
def State.hostWriteByte (s : State) (a : Half) (b : Byte) : State :=
  { s with inMem := Cells.write s.inMem a.toNat b }

/-- The host writes `IN_LEN` (R27, R136); the bytes of `IN` stay (log entry 11). -/
def State.hostWriteLen (s : State) (n : Half) : State := { s with inLen := n }

/-- The script line `LOAD`: the bytes from offset 0 on, and `IN_LEN` their count (R75); the bytes beyond them stay (log
entry 11). -/
def State.hostLoad (s : State) (bytes : List Byte) : State :=
  { s with inMem := Cells.overwrite s.inMem bytes, inLen := BitVec.ofNat 16 bytes.length }

/-- The host has read a value; one draw is used up, whether or not the value was one (R36, U1). -/
def State.recordRead (s : State) (v : Word) : State := { s with hostRead := v, draws := s.draws + 1 }

/-- Reset (R190, R191; log entry 8): every element at its reset value, an operation in progress abandoned, the pulses
low. Elements whose reset value is unspecified take fresh draws here; the history of the sink and the host's own fields
are not the block's and stay. -/
def State.resetBlock (s : State) : State :=
  { State.reset with
    inLen := Config.freeInLen s.draws
    inGen := s.draws
    msgType := Config.freeMsgType s.draws
    itemCode := Config.freeItemCode s.draws
    seqNum := Config.freeSeqNum s.draws
    bodyLen := Config.freeBodyLen s.draws
    sampleCount := Config.freeSampleCount s.draws
    sinkLog := s.sinkLog
    hostRead := s.hostRead
    draws := s.draws + 1
    script := s.script }

end Sys2Proof.Machine
end

