-- ==== Sys2Proof/Machine/FrameDecode.lean ====
section
/-! DEFINITION. The frame decoder (40_frame_decode.md): the abstract function of R26 and R81 to R87, and the meanings of
`DECODE` and of the eight message types. -/

namespace Sys2Proof.Machine

/-- D00's result of `decode` (R26). -/
inductive DecodeResult where
  | valid (type : BitVec 3) (itemCode seqNum : Half) (body : List Byte)
  | invalid (cause : Cause)
deriving DecidableEq, Repr

/-- Step 6a, the body of a control-item frame (R86). -/
def controlItemBody (codes : Config.CodeTable) (type : BitVec 3) (frame : List Byte) : DecodeResult :=
  if field2 frame ∈ codes.known then .valid type (field2 frame) 0 (frameTail frame)
  else .invalid .unknownItemCode

/-- Step 6b, the body of a data-item frame (R87). -/
def dataItemBody (codes : Config.CodeTable) (type : BitVec 3) (frame : List Byte) : DecodeResult :=
  .valid type codes.noneCode (field2 frame) (frameTail frame)

/-- Steps 3 to 6, for a header that gave `type` and `totalLength`: the length check (R83), the minimum length (R84), the
dispatch on the family (R85). The order of the checks is the priority of R168. -/
def messageFrame (codes : Config.CodeTable) (type : BitVec 3) (totalLength : Nat) (frame : List Byte) : DecodeResult :=
  if totalLength ≠ frame.length then .invalid .framingError
  else if frame.length < Config.decMinLen then .invalid .framingError
  else bif familyBit type then dataItemBody codes type frame else controlItemBody codes type frame

/-- `decode(F)` (R26, R81 to R87): no byte is read of a frame shorter than its header. -/
def decodeFrame (codes : Config.CodeTable) (frame : List Byte) : DecodeResult :=
  if frame.length < Config.hdrBytes then .invalid .framingError
  else messageFrame codes (headerType (headerWord frame)) (headerLength (headerWord frame)) frame

/-- The decoder results in the register view (R26). -/
def State.putDecode (s : State) : DecodeResult → State
  | .valid type code seq body => s.writeDecoded type code seq body
  | .invalid cause => s.raiseInvalid cause

/-- The decode of `IN[0 ..< IN_LEN]` as a message of a given type and declared length. -/
def State.decodeMessage (s : State) (type : BitVec 3) (totalLength : Nat) : State :=
  s.putDecode (messageFrame Config.codes type totalLength s.inBytes)

/-- The whole of `DECODE`, which `STREAM` performs first (R80, R132). -/
def State.decodeInput (s : State) : State := s.putDecode (decodeFrame Config.codes s.inBytes)

/-- `SetControlItem` (R88). -/
def execSetControlItem (totalLength : Nat) (s : State) : Host.Outcome State Fault Refusal :=
  .next (s.decodeMessage 0b000#3 totalLength)

/-- `CurrentControlItem` (R89). -/
def execCurrentControlItem (totalLength : Nat) (s : State) : Host.Outcome State Fault Refusal :=
  .next (s.decodeMessage 0b001#3 totalLength)

/-- `ControlItemRange` (R90). -/
def execControlItemRange (totalLength : Nat) (s : State) : Host.Outcome State Fault Refusal :=
  .next (s.decodeMessage 0b010#3 totalLength)

/-- `Ack` (R91). -/
def execAck (totalLength : Nat) (s : State) : Host.Outcome State Fault Refusal :=
  .next (s.decodeMessage 0b011#3 totalLength)

/-- `DataItem0` (R92). -/
def execDataItem0 (totalLength : Nat) (s : State) : Host.Outcome State Fault Refusal :=
  .next (s.decodeMessage 0b100#3 totalLength)

/-- `DataItem1` (R93). -/
def execDataItem1 (totalLength : Nat) (s : State) : Host.Outcome State Fault Refusal :=
  .next (s.decodeMessage 0b101#3 totalLength)

/-- `DataItem2` (R94). -/
def execDataItem2 (totalLength : Nat) (s : State) : Host.Outcome State Fault Refusal :=
  .next (s.decodeMessage 0b110#3 totalLength)

/-- `DataItem3` (R95). -/
def execDataItem3 (totalLength : Nat) (s : State) : Host.Outcome State Fault Refusal :=
  .next (s.decodeMessage 0b111#3 totalLength)

/-- `DECODE` (R80). -/
def execDecode (s : State) : Host.Outcome State Fault Refusal := .next s.decodeInput

end Sys2Proof.Machine
end

