-- ==== Sys2Proof/Machine/SampleUnpack.lean ====
section
/-! DEFINITION. The sample unpacker (41_sample_unpack.md): the abstract function of R26 and R111 to R116, and the meanings
of `EXTRACT` and of the four sample widths. -/

namespace Sys2Proof.Machine

/-- D00's result of `extract` (R26); a sample is held as its 32-bit word. -/
inductive ExtractResult where
  | ok (samples : List Word)
  | fail (cause : Cause)
deriving DecidableEq, Repr

/-- The sample word of chunk `i`: its little-endian value, zero-extended to 32 bits (R66, R114). -/
def sampleAt (w : Nat) (payload : List Byte) (i : Nat) : Word := BitVec.ofNat 32 (leNat (chunkAt w payload i))

/-- The samples of a payload at byte width `w`, in chunk order; the tail that fills no chunk is dropped (R113 to R116). -/
def unpack (w : Nat) (payload : List Byte) : List Word :=
  (List.range (payload.length / w)).map (sampleAt w payload)

/-- `extract(bitWidth, P)` (R26, R111 to R116): the width check comes before everything else. -/
def extractPayload (bitWidth : Nat) (payload : List Byte) : ExtractResult :=
  match byteWidth? bitWidth with
  | some w => .ok (unpack w payload)
  | none => .fail .unsupportedSampleWidth

/-- The unpacker results in the register view (R26). -/
def State.putExtract (s : State) : ExtractResult → State
  | .ok words => s.writeSamples words
  | .fail cause => s.raiseFail cause

/-- `EXTRACT8` on `IN[0 ..< IN_LEN]` (R117). -/
def execExtract8 (s : State) : Host.Outcome State Fault Refusal := .next (s.writeSamples (unpack 1 s.inBytes))

/-- `EXTRACT16` (R118). -/
def execExtract16 (s : State) : Host.Outcome State Fault Refusal := .next (s.writeSamples (unpack 2 s.inBytes))

/-- `EXTRACT24` (R119). -/
def execExtract24 (s : State) : Host.Outcome State Fault Refusal := .next (s.writeSamples (unpack 3 s.inBytes))

/-- `EXTRACT32` (R120). -/
def execExtract32 (s : State) : Host.Outcome State Fault Refusal := .next (s.writeSamples (unpack 4 s.inBytes))

/-- `EXTRACT` (R110). -/
def execExtract (bitWidth : Nat) (s : State) : Host.Outcome State Fault Refusal :=
  .next (s.putExtract (extractPayload bitWidth s.inBytes))

end Sys2Proof.Machine
end

