-- ==== Sys2Proof/Machine/StreamOps.lean ====
section
/-! DEFINITION. `STREAM` and `CFGW` (42_stream_and_host_ops.md R132, R133). -/

namespace Sys2Proof.Machine

/-- Step 2 of `STREAM`: the body at the configured width, and a sink event where the extraction succeeded (R132). -/
def State.extractBody (s : State) : State :=
  let t := s.putExtract (extractPayload s.sampleWidthCfg.toNat s.bodyBytes)
  bif t.xOk then t.emitSink else t

/-- Steps 2 and 3 of `STREAM`, after the decode: only a valid data-item frame is unpacked (R132). -/
def State.streamSecond (s : State) : State :=
  bif s.dValid && familyBit s.msgType then s.extractBody else s.skipExtract

/-- `STREAM` (R132). -/
def execStream (s : State) : Host.Outcome State Fault Refusal := .next s.decodeInput.streamSecond

/-- `CFGW` (R133). An operand beyond 16 bits, which no command can present, is cut to its low 16 (DESIGN CHOICE: log
entry 17). -/
def execCfgw (bitWidth : Nat) (s : State) : Host.Outcome State Fault Refusal :=
  .next (s.writeWidthCfg (BitVec.ofNat 16 bitWidth))

end Sys2Proof.Machine
end

