-- ==== Sys2Proof/Machine/Dispatch.lean ====
section
/-! DEFINITION. One arm for each instruction of spec/opcode_table.json. -/

namespace Sys2Proof.Machine

def exec (i : Instr) (s : State) : Host.Outcome State Fault Refusal :=
  match i with
  | .setControlItem n => Sys2Proof.Machine.execSetControlItem n s
  | .currentControlItem n => Sys2Proof.Machine.execCurrentControlItem n s
  | .controlItemRange n => Sys2Proof.Machine.execControlItemRange n s
  | .ack n => Sys2Proof.Machine.execAck n s
  | .dataItem0 n => Sys2Proof.Machine.execDataItem0 n s
  | .dataItem1 n => Sys2Proof.Machine.execDataItem1 n s
  | .dataItem2 n => Sys2Proof.Machine.execDataItem2 n s
  | .dataItem3 n => Sys2Proof.Machine.execDataItem3 n s
  | .extract8 => Sys2Proof.Machine.execExtract8 s
  | .extract16 => Sys2Proof.Machine.execExtract16 s
  | .extract24 => Sys2Proof.Machine.execExtract24 s
  | .extract32 => Sys2Proof.Machine.execExtract32 s
  | .decode => Sys2Proof.Machine.execDecode s
  | .extract n => Sys2Proof.Machine.execExtract n s
  | .stream => Sys2Proof.Machine.execStream s
  | .cfgw n => Sys2Proof.Machine.execCfgw n s

end Sys2Proof.Machine
end

