-- ==== Sys2Proof/Machine/HostPort.lean ====
section
/-! DEFINITION. The host's side of the ports (10_state.md R27): what a read of a result output returns, and how a word of
the opcode table is placed where the machine takes its next instruction from. -/

namespace Sys2Proof.Machine

/-- A flag as the value of a one-bit output. -/
def flagWord (b : Bool) : Word := bif b then 1 else 0

/-- A field of the frame results, which means something only while `D_VALID = 1` and the block is idle (R196). -/
def State.decoderPort (s : State) (v : Word) : Option Word := bif !s.busy && s.dValid then some v else none

/-- A field of the sample results, which means something only while `X_OK = 1` and the block is idle (R196). -/
def State.unpackerPort (s : State) (v : Word) : Option Word := bif !s.busy && s.xOk then some v else none

/-- A status field, which means something only while the block is idle (R196). -/
def State.statusPort (s : State) (v : Word) : Option Word := bif s.busy then none else some v

/-- The value of a result output, zero-extended; none where the spec leaves it unspecified (R27, R196, U11). -/
def State.portValue (s : State) : Port → Option Word
  | .busy => some (flagWord s.busy)
  | .done => some (flagWord s.done)
  | .dValid => s.statusPort (flagWord s.dValid)
  | .dCause => s.statusPort (s.dCause.setWidth 32)
  | .msgType => s.decoderPort (s.msgType.setWidth 32)
  | .family => s.decoderPort (flagWord (familyBit s.msgType))
  | .itemCode => s.decoderPort (s.itemCode.setWidth 32)
  | .seqNum => s.decoderPort (s.seqNum.setWidth 32)
  | .bodyLen => s.decoderPort (s.bodyLen.setWidth 32)
  | .bodyByte a =>
    if a.toNat < s.bodyLen.toNat then (s.bodyByte? a.toNat).bind fun b => s.decoderPort (b.setWidth 32) else none
  | .xOk => s.statusPort (flagWord s.xOk)
  | .xCause => s.statusPort (s.xCause.setWidth 32)
  | .sampleCount => s.unpackerPort (s.sampleCount.setWidth 32)
  | .sample i =>
    if i.toNat < s.sampleCount.toNat then (s.sample? i.toNat).bind fun w => s.unpackerPort w else none

/-- The width of an output (R27). -/
def portWidth : Port → Nat
  | .busy => 1
  | .done => 1
  | .dValid => 1
  | .dCause => 3
  | .msgType => 3
  | .family => 1
  | .itemCode => 16
  | .seqNum => 16
  | .bodyLen => 13
  | .bodyByte _ => 8
  | .xOk => 1
  | .xCause => 3
  | .sampleCount => 16
  | .sample _ => 32

/-- An unspecified value of an output: a fresh draw of its width (U1). -/
def drawPort (p : Port) (draw : Nat) : Word := ((Config.freeRead draw).setWidth (portWidth p)).setWidth 32

/-- A host read: the output's value, or a fresh draw; nothing of the block changes (R36, R136, R196). -/
def State.hostReadPort (s : State) (p : Port) : State :=
  s.recordRead ((s.portValue p).getD (drawPort p s.draws))

/-- The frame a header word stands for when every bit after it is zero: the header, then zeros up to the length it
declares; a declared length below 2 leaves the header alone. -/
def frameOfHeader (h : Half) : List Byte :=
  bytesOfHalf h ++ List.replicate (headerLength h - Config.hdrBytes) 0

/-- The word of an opcode-table row placed for the next step: a command is put at the head of the host's script; a width
operand is presented with the command `EXTRACT`; a header is loaded into `IN` as a frame and the command `DECODE`
presented. No operation is in progress (log entry 3). -/
def State.placeWord (s : State) (nbits w : Nat) : State :=
  if nbits ≤ 8 then
    { s with inFlight := none, script := .issue { cmd := BitVec.ofNat 2 w, bitWidth := 0 } :: s.script }
  else
    match decodeWidth (BitVec.ofNat 16 w) with
    | .ok _ =>
      { s with inFlight := none, script := .issue { cmd := 0b01, bitWidth := BitVec.ofNat 16 w } :: s.script }
    | .error _ =>
      { s.hostLoad (frameOfHeader (BitVec.ofNat 16 w)) with
        inFlight := none
        script := .issue { cmd := 0b00, bitWidth := 0 } :: s.script }

end Sys2Proof.Machine
end

