-- ==== Sys2Proof/Machine/Run.lean ====
section
/-! DEFINITION. One action of the host and what the block does on it (42_stream_and_host_ops.md R135, R136;
70_reset_and_hazards.md R190 to R196). -/

namespace Sys2Proof.Machine

/-- The operation in progress runs to its end: the instruction its command pair encodes, then completion (R135). An idle
block does nothing. -/
def runInFlight (s : State) : Host.Outcome State Fault Refusal :=
  match s.inFlight with
  | none => .next s
  | some c =>
    match exec (decodeCommand c.cmd c.bitWidth) s with
    | .next t => .next t.complete
    | .fault r => .fault r
    | .refused r => .refused r

/-- One action of the host. A command, or a write of the input, while an operation is in progress has no meaning (R194,
R195, U9); reset is taken at any time (R191). -/
def hostAct (s : State) : HostAction → Host.Outcome State Fault Refusal
  | .issue c => bif s.busy then .refused .commandWhileBusy else runInFlight (s.accept c)
  | .present c => bif s.busy then .refused .commandWhileBusy else .next (s.accept c)
  | .wait => runInFlight s.lowerPulses
  | .writeByte a b => bif s.busy then .refused .inputWriteWhileBusy else .next (s.lowerPulses.hostWriteByte a b)
  | .writeLen n => bif s.busy then .refused .inputWriteWhileBusy else .next (s.lowerPulses.hostWriteLen n)
  | .load bytes =>
    bif s.busy then .refused .inputWriteWhileBusy
    else if Config.maxInLen < bytes.length then .fault .inputOutsideBuffer
    else .next (s.lowerPulses.hostLoad bytes)
  | .read p => .next (s.hostReadPort p)
  | .reset => .next s.resetBlock

/-- The host's next action is taken; a host with nothing more to do waits. -/
def hostStep (s : State) : Host.Outcome State Fault Refusal :=
  match s.script with
  | [] => hostAct s .wait
  | a :: rest => hostAct (s.withScript rest) a

end Sys2Proof.Machine
end

