-- ==== Sys2Proof/Machine/Reference.lean ====
section
/-! DEFINITION. The reference encoders (43_frame_encode_reference.md): functions beside the hardware, which the block does
not perform (R140). -/

namespace Sys2Proof.Machine

/-- What an encoder answers. -/
inductive EncodeResult where
  | frame (bytes : List Byte)
  /-- Fails with a named error, before any byte is produced (R144). -/
  | fail (cause : Cause)
  /-- Outside its precondition: no result (R145, decision D21). -/
  | refused
deriving DecidableEq, Repr

/-- `encodeHeader(type, totalLength)` (R141), for a `totalLength` up to 8191. Beyond its operand range the rule gives no
behaviour; there this function answers two bytes with the length cut to its low 13 bits (DESIGN CHOICE, unsafe: log
entry 17). The encoders never call it there. -/
def encodeHeader (type : BitVec 3) (totalLength : Nat) : List Byte := bytesOfHalf (headerOf type totalLength)

/-- A header and the bytes after it, where the total fits the length field (R144). -/
def encodeWhole (type : BitVec 3) (frameBody : List Byte) : EncodeResult :=
  if Config.maxLen < Config.hdrBytes + frameBody.length then .fail .lengthExceeded
  else .frame (encodeHeader type (Config.hdrBytes + frameBody.length) ++ frameBody)

/-- `encodeControlItem(type, itemCode, parameters)` (R142, R145). -/
def encodeControlItem (codes : Config.CodeTable) (type : BitVec 3) (itemCode : Half) (parameters : List Byte) :
    EncodeResult :=
  bif familyBit type || !decide (itemCode ∈ codes.known) then .refused
  else encodeWhole type (bytesOfHalf itemCode ++ parameters)

/-- `encodeDataItem(type, payload)` (R143, R145); the caller places the sequence number first in `payload` (U14). -/
def encodeDataItem (type : BitVec 3) (payload : List Byte) : EncodeResult :=
  bif familyBit type then encodeWhole type payload else .refused

end Sys2Proof.Machine
end

