-- ==== Sys2Proof/Safety.lean ====
section
/-! DEFINITION. The terms claims are stated in: what an operation writes and what it leaves (the write columns of
10_state.md R23 and 20_memory.md R36), what the results of a decode and of an extraction say in the register view (R26),
the invariant of every step, and a host that keeps to R194 and R195. -/

namespace Sys2Proof.Machine

/-! Frames. -/

/-- Only the host writes these, and the model's own fields of the host's side (R13, R136). Every byte of `IN` reads as
before. -/
structure HostSideKept (s t : State) : Prop where
  inMem : t.inMem = s.inMem
  inByte : ∀ a, t.inByte a = s.inByte a
  inLen : t.inLen = s.inLen
  inGen : t.inGen = s.inGen
  inFlight : t.inFlight = s.inFlight
  done : t.done = s.done
  hostRead : t.hostRead = s.hostRead
  script : t.script = s.script

/-- The results of the frame decoder keep their values; every byte of `BODY` reads as before. -/
structure DecoderKept (s t : State) : Prop where
  dValid : t.dValid = s.dValid
  dCause : t.dCause = s.dCause
  msgType : t.msgType = s.msgType
  itemCode : t.itemCode = s.itemCode
  seqNum : t.seqNum = s.seqNum
  body : t.body = s.body
  bodyByte : ∀ a, t.bodyByte? a = s.bodyByte? a
  bodyLen : t.bodyLen = s.bodyLen

/-- The results of the sample unpacker keep their values; every word of `SAMPLES` reads as before. -/
structure UnpackerKept (s t : State) : Prop where
  xOk : t.xOk = s.xOk
  xCause : t.xCause = s.xCause
  samples : t.samples = s.samples
  sample : ∀ i, t.sample? i = s.sample? i
  sampleCount : t.sampleCount = s.sampleCount

/-- No sink event. -/
structure SinkKept (s t : State) : Prop where
  sinkLog : t.sinkLog = s.sinkLog
  sinkValid : t.sinkValid = s.sinkValid

/-- What `DECODE`, or a message type, leaves (R80). -/
structure DecodeFrame (s t : State) : Prop where
  host : HostSideKept s t
  unpacker : UnpackerKept s t
  sink : SinkKept s t
  widthCfg : t.sampleWidthCfg = s.sampleWidthCfg

/-- What `EXTRACT`, or a sample width, leaves (R110). -/
structure ExtractFrame (s t : State) : Prop where
  host : HostSideKept s t
  decoder : DecoderKept s t
  sink : SinkKept s t
  widthCfg : t.sampleWidthCfg = s.sampleWidthCfg

/-! Results in the register view (R26). -/

/-- The results of a valid decode of `IN[0 ..< IN_LEN]` as `s` holds it (R86, R87). -/
structure DecodedAs (s t : State) (type : BitVec 3) (code seq : Half) : Prop where
  dValid : t.dValid = true
  dCause : t.dCause = 0
  msgType : t.msgType = type
  itemCode : t.itemCode = code
  seqNum : t.seqNum = seq
  bodyLen : t.bodyLen.toNat = s.inLen.toNat - 4
  body : ∀ k, k < s.inLen.toNat - 4 → t.bodyByte? k = some (s.inByte (4 + k))
  beyond : ∀ k, s.inLen.toNat - 4 ≤ k → t.bodyByte? k = none

/-- An invalid decode: the status is exact, nothing is said of the other results (R166). -/
structure DecodedInvalid (t : State) (cause : BitVec 3) : Prop where
  dValid : t.dValid = false
  dCause : t.dCause = cause

/-- A successful extraction of `count` samples, the word at each index given (R114). -/
structure ExtractedAs (t : State) (count : Nat) (word : Nat → Word) : Prop where
  xOk : t.xOk = true
  xCause : t.xCause = 0
  sampleCount : t.sampleCount.toNat = count
  samples : ∀ i, i < count → t.sample? i = some (word i)
  beyond : ∀ i, count ≤ i → t.sample? i = none

/-- A failed extraction, or none: the status is exact, nothing is said of the samples (R167, R132). -/
structure ExtractStatus (t : State) (cause : BitVec 3) : Prop where
  xOk : t.xOk = false
  xCause : t.xCause = cause

/-! Sample words by their bytes (the table of R66). -/

/-- One byte, three zero bytes above it. -/
def word8 (p : Nat → Byte) (i : Nat) : Word := 0#24 ++ p i
/-- Two bytes, the first the less significant. -/
def word16 (p : Nat → Byte) (i : Nat) : Word := 0#16 ++ (p (2 * i + 1) ++ p (2 * i))
/-- Three bytes. -/
def word24 (p : Nat → Byte) (i : Nat) : Word := 0#8 ++ (p (3 * i + 2) ++ (p (3 * i + 1) ++ p (3 * i)))
/-- Four bytes; nothing is extended. -/
def word32 (p : Nat → Byte) (i : Nat) : Word := p (4 * i + 3) ++ (p (4 * i + 2) ++ (p (4 * i + 1) ++ p (4 * i)))

/-- The sample word at byte width `w`, by its bytes. -/
def sampleWord (w : Nat) (p : Nat → Byte) (i : Nat) : Word :=
  match w with
  | 1 => word8 p i
  | 2 => word16 p i
  | 3 => word24 p i
  | _ => word32 p i

/-- The low `w` bytes of a word, the least significant first (R124). -/
def lowBytes (w : Nat) (x : Word) : List Byte := (List.range w).map fun j => x.extractLsb' (8 * j) 8

/-! The fields of the frame in `IN`. -/

/-- The header `H` of the frame in `IN` (R51). -/
def State.inHeader (s : State) : Half := halfOfBytes (s.inByte 0) (s.inByte 1)

/-- Field2 of the frame in `IN` (R57, R60). -/
def State.inField2 (s : State) : Half := halfOfBytes (s.inByte 2) (s.inByte 3)

/-- `IN` holds a frame that passes every length check (R81, R83, R84). -/
structure State.HoldsFrame (s : State) : Prop where
  enough : 4 ≤ s.inLen.toNat
  length : headerLength s.inHeader = s.inLen.toNat

/-! The invariant. -/

/-- What holds of the state after every step, whatever the host does (R15 to R19, R86, R87, R100, R114, R161). -/
structure Inv (s : State) : Prop where
  inWf : Memory.wf 65536 s.inMem = true
  bodyWf : Memory.wf 8192 s.body = true
  samplesWf : Cells.wf 65536 s.samples = true
  /-- R15: valid is cause 0, and no cause but 0, 1, 2 is recorded. -/
  dStatus : (s.dValid = true → s.dCause = 0) ∧ s.dCause.toNat ≤ 2
  /-- R16, R100. -/
  dBody : s.dValid = true → s.bodyLen.toNat ≤ 8187 ∧ ∀ k, (s.bodyByte? k).isSome = true ↔ k < s.bodyLen.toNat
  /-- R86: a control-item frame has a known code and no sequence number. -/
  dControl : s.dValid = true → familyBit s.msgType = false → s.itemCode ∈ Config.codes.known ∧ s.seqNum = 0
  /-- R87: a data-item frame reports the code none. -/
  dData : s.dValid = true → familyBit s.msgType = true → s.itemCode = Config.codes.noneCode
  /-- R19: success is cause 0, and no cause but 0 and 3 is recorded. -/
  xStatus : (s.xOk = true → s.xCause = 0) ∧ (s.xCause = 0 ∨ s.xCause = 3)
  /-- R18. -/
  xSamples : s.xOk = true → ∀ i, (s.sample? i).isSome = true ↔ i < s.sampleCount.toNat
  /-- R134: every event carries at most a body's worth of signed 32-bit integers. -/
  sink : ∀ e ∈ s.sinkLog, e.samples.length ≤ 8187 ∧ ∀ x ∈ e.samples, -2 ^ 31 ≤ x ∧ x < 2 ^ 31

/-! The host. -/

/-- An action that R194 and R195 allow in `s`; a `LOAD` has at most 65535 bytes, the valid addresses of `IN` (R13, R30:
DESIGN CHOICE, log entry 10). -/
def Allowed (s : State) : HostAction → Prop
  | .issue _ => s.busy = false
  | .present _ => s.busy = false
  | .wait => True
  | .writeByte _ _ => s.busy = false
  | .writeLen _ => s.busy = false
  | .load bytes => s.busy = false ∧ bytes.length ≤ 65535
  | .read _ => True
  | .reset => True

/-- The host's next action, a host with none left waiting. -/
def State.nextAction (s : State) : HostAction := s.script.headD .wait

end Sys2Proof.Machine
end

