-- ==== Sys2Proof/Certificates/Slice0/Obligations.lean ====
section
/-! DEFINITION. The statements put to the provers. Each formalises the rule of spec/ its docstring names; a clause that is
the model's own choice says so and names the log entry. -/

open Sys2Proof Sys2Proof.Machine

/-! Encodings (30_encoding.md). -/

/-- Every well-formed instruction, with every operand its encoding admits, reads back from its encoding, whatever bytes
follow. The layout of a command pair as bytes is the model's (log entry 4). -/
def Obligations.EncodeDecodeRoundTrip : Prop :=
  ∀ (i : Instr) (rest : List Byte), i.WellFormed → decode i.level (encode i ++ rest) = .ok (i, rest)

/-- Whatever bytes a decoder accepts, it answers a well-formed instruction of the level asked for, and leaves exactly the
bytes after the ones its encoding has. -/
def Obligations.DecodedInstructionIsWellFormed : Prop :=
  ∀ (l : Level) (bytes rest : List Byte) (i : Instr), decode l bytes = .ok (i, rest) →
    i.WellFormed ∧ i.level = l ∧ ∃ front, bytes = front ++ rest ∧ front.length = (encode i).length

/-- R148: parsing an encoded header gives back the type and the length; encoding the fields of any `H` gives its bytes. -/
def Obligations.HeaderRoundTrip : Prop :=
  (∀ (t : BitVec 3) (n : Nat), n ≤ 8191 →
    headerType (headerWord (encodeHeader t n)) = t ∧ headerLength (headerWord (encodeHeader t n)) = n) ∧
  (∀ h : Half, encodeHeader (headerType h) (headerLength h) = bytesOfHalf h)

/-- R51 and R52 over the integers: the header is its low byte plus 256 times its high byte; `type = H >> 13` is the top
three bits of the second byte; `totalLength = H − (type << 13)`. -/
def Obligations.HeaderFieldsByArithmetic : Prop :=
  ∀ b0 b1 : Byte,
    (halfOfBytes b0 b1).toNat = b0.toNat + 256 * b1.toNat ∧
    (headerType (halfOfBytes b0 b1)).toNat = (halfOfBytes b0 b1).toNat / 8192 ∧
    (headerType (halfOfBytes b0 b1)).toNat = b1.toNat / 32 ∧
    headerLength (halfOfBytes b0 b1) + 8192 * (headerType (halfOfBytes b0 b1)).toNat = (halfOfBytes b0 b1).toNat ∧
    headerLength (halfOfBytes b0 b1) = b0.toNat + 256 * (b1.toNat % 32)

/-- R53 and R54: the header matched under the mask `0xE000` names its message type; bit 15 of `H`, which is bit 7 of
its second byte, names its family. -/
def Obligations.HeaderMatchNamesType : Prop :=
  ∀ h : Half,
    (h &&& 0xE000 = 0x0000 → decodeHeader h = .setControlItem (headerLength h)) ∧
    (h &&& 0xE000 = 0x2000 → decodeHeader h = .currentControlItem (headerLength h)) ∧
    (h &&& 0xE000 = 0x4000 → decodeHeader h = .controlItemRange (headerLength h)) ∧
    (h &&& 0xE000 = 0x6000 → decodeHeader h = .ack (headerLength h)) ∧
    (h &&& 0xE000 = 0x8000 → decodeHeader h = .dataItem0 (headerLength h)) ∧
    (h &&& 0xE000 = 0xA000 → decodeHeader h = .dataItem1 (headerLength h)) ∧
    (h &&& 0xE000 = 0xC000 → decodeHeader h = .dataItem2 (headerLength h)) ∧
    (h &&& 0xE000 = 0xE000 → decodeHeader h = .dataItem3 (headerLength h)) ∧
    (familyBit (headerType h) = true ↔ 4 ≤ (headerType h).toNat) ∧
    familyBit (headerType h) = h.getLsbD 15 ∧
    ∀ b0 b1 : Byte, familyBit (headerType (halfOfBytes b0 b1)) = b1.getLsbD 7

/-- R63: the four values of `cmd` and the operations they select; `bit_width` is used by two of them. -/
def Obligations.CommandSelectsOperation : Prop :=
  ∀ b : Half,
    decodeCommand 0b00 b = .decode ∧ decodeCommand 0b01 b = .extract b.toNat ∧
    decodeCommand 0b10 b = .stream ∧ decodeCommand 0b11 b = .cfgw b.toNat

/-- Words written out from the encodings of R52, R62 and R63 decode to the instructions they stand for (sanity). -/
def Obligations.WrittenWordsDecode : Prop :=
  decode .header [0x08, 0x00] = .ok (.setControlItem 8, []) ∧
  decode .header [0x06, 0x60] = .ok (.ack 6, []) ∧
  decode .header [0x0A, 0x80] = .ok (.dataItem0 10, []) ∧
  decode .header [0xFF, 0xFF] = .ok (.dataItem3 8191, []) ∧
  decode .width [0x18, 0x00] = .ok (.extract24, []) ∧
  decode .width [0x28, 0x00] = .error (.unsupportedSampleWidth 40) ∧
  decode .command [0x01, 0x20, 0x00] = .ok (.extract 32, []) ∧
  decode .command [0x03, 0x10, 0x00] = .ok (.cfgw 16, [])

/-! The step. -/

/-- A step of an idle block whose host issues a command runs the instruction the command's bytes decode to, on the state
that has accepted the command, and then completes: `BUSY` falls and `done` is asserted. An operation in progress is run
the same way when the host waits. -/
def Obligations.StepRunsDecodedInstruction : Prop :=
  (∀ (s : State) (c : Command) (script : List HostAction) (i : Instr),
    s.busy = false → s.script = .issue c :: script →
    decode .command (commandBytes c.cmd c.bitWidth) = .ok (i, []) → i.WellFormed →
    step s = match exec i ((s.withScript script).accept c) with
      | .next t => .next t.complete
      | .fault r => .fault r
      | .refused r => .refused r) ∧
  (∀ (s : State) (c : Command) (script : List HostAction) (i : Instr),
    s.inFlight = some c → s.script = .wait :: script →
    decode .command (commandBytes c.cmd c.bitWidth) = .ok (i, []) → i.WellFormed →
    step s = match exec i (s.withScript script).lowerPulses with
      | .next t => .next t.complete
      | .fault r => .fault r
      | .refused r => .refused r)

/-- `DECODE` of a frame with a header is the message type its header decodes to (R82, R85). -/
def Obligations.DecodeRunsMessageType : Prop :=
  ∀ s : State, 2 ≤ s.inLen.toNat → exec .decode s = exec (decodeHeader s.inHeader) s

/-- `EXTRACT` with a supported operand is the sample width its operand decodes to (R62, R75). -/
def Obligations.ExtractRunsSampleWidth : Prop :=
  ∀ (s : State) (b : Half) (i : Instr), decodeWidth b = .ok i → exec (.extract b.toNat) s = exec i s

/-- Presenting a command and then waiting for `done` is the same as issuing it as one script line: the collapse of accept,
run and complete into one atomic step that R135 allows loses nothing. -/
def Obligations.PresentThenWaitIsIssue : Prop :=
  ∀ (s u : State) (c : Command) (script : List HostAction),
    s.busy = false → step (s.withScript (.present c :: .wait :: script)) = .next u →
    step u = step (s.withScript (.issue c :: script))

/-- A command or a write of the input while an operation is in progress is refused, by name (R194, R195). -/
def Obligations.BusyBlockRefusesHost : Prop :=
  ∀ (s : State) (script : List HostAction), s.busy = true →
    (∀ c, step (s.withScript (.issue c :: script)) = .refused .commandWhileBusy) ∧
    (∀ c, step (s.withScript (.present c :: script)) = .refused .commandWhileBusy) ∧
    (∀ a b, step (s.withScript (.writeByte a b :: script)) = .refused .inputWriteWhileBusy) ∧
    (∀ n, step (s.withScript (.writeLen n :: script)) = .refused .inputWriteWhileBusy) ∧
    (∀ bs, step (s.withScript (.load bs :: script)) = .refused .inputWriteWhileBusy)

/-- The machine goes on exactly where the host keeps to R194 and R195 and loads no more than 65535 bytes: no operation on
any data ends a run (R96, R122, R200). That a `LOAD` of more than 65535 bytes has no next state is the model's choice
(DESIGN CHOICE, log entry 10): R30 bounds the addresses of `IN` and does not say what such a `LOAD` does. -/
def Obligations.StepGoesOnForAllowedActions : Prop :=
  ∀ s : State, (∃ t, step s = .next t) ↔ Allowed s s.nextAction

/-- R190 and R191: reset is taken in any state, also while an operation is in progress, gives the six values of R24, and
emits no sink event. Three clauses are the model's choice: `sink_valid` low after a reset in any state, also after a
completed `STREAM` (DESIGN CHOICE, log entries 8 and 14: R24 says nothing of the pulses), and the history of sink events
and the host's script as before (DESIGN CHOICE, log entry 8). -/
def Obligations.ResetAnyTime : Prop :=
  ∀ (s : State) (script : List HostAction), ∃ t, step (s.withScript (.reset :: script)) = .next t ∧
    t.dValid = false ∧ t.dCause = 0 ∧ t.xOk = false ∧ t.xCause = 0 ∧ t.sampleWidthCfg = 0 ∧ t.busy = false ∧
    t.sinkValid = false ∧ t.sinkLog = s.sinkLog ∧ t.script = script

/-- R24: the values the spec gives the machine after reset. -/
def Obligations.ResetStateValues : Prop :=
  State.reset.dValid = false ∧ State.reset.dCause = 0 ∧ State.reset.xOk = false ∧ State.reset.xCause = 0 ∧
  State.reset.sampleWidthCfg = 0 ∧ State.reset.busy = false

/-- `LOAD` of at most 65535 bytes into an idle block makes those bytes the input and their count `IN_LEN`; it changes
nothing of the block's results (R75, R136). That every byte of `IN` at or beyond the loaded count keeps its value is the
model's choice (DEDUCED, unsafe, log entry 11): by R13 no such byte exists for any rule. -/
def Obligations.LoadPresentsItsBytes : Prop :=
  ∀ (s : State) (bytes : List Byte) (script : List HostAction),
    s.busy = false → bytes.length ≤ 65535 →
    ∃ t, step (s.withScript (.load bytes :: script)) = .next t ∧
      t.inBytes = bytes ∧ t.inLen.toNat = bytes.length ∧ (∀ a, bytes.length ≤ a → t.inByte a = s.inByte a) ∧
      DecoderKept s t ∧ UnpackerKept s t ∧ t.sinkLog = s.sinkLog ∧ t.sampleWidthCfg = s.sampleWidthCfg ∧
      t.busy = false ∧ t.script = script

/-- The write ports of `IN` and of `IN_LEN`, on an idle block: the one byte, or the length, and nothing else (R27, R136).
That a byte at or beyond `IN_LEN` can be written, is kept, and shows again after a write of `IN_LEN` is the model's choice
(DEDUCED, unsafe, log entry 11: by R13 no such byte exists for any rule); that address 65535, which no length makes valid,
can be written is the model's choice too (DESIGN CHOICE, log entry 10). -/
def Obligations.WritePortsWriteInput : Prop :=
  ∀ (s : State) (script : List HostAction), s.busy = false →
    (∀ (a : Half) (b : Byte), ∃ t, step (s.withScript (.writeByte a b :: script)) = .next t ∧
      t.inByte a.toNat = b ∧ (∀ k, k ≠ a.toNat → t.inByte k = s.inByte k) ∧ t.inLen = s.inLen ∧
      DecoderKept s t ∧ UnpackerKept s t ∧ t.sinkLog = s.sinkLog ∧ t.sampleWidthCfg = s.sampleWidthCfg) ∧
    (∀ n : Half, ∃ t, step (s.withScript (.writeLen n :: script)) = .next t ∧
      t.inLen = n ∧ (∀ k, t.inByte k = s.inByte k) ∧
      DecoderKept s t ∧ UnpackerKept s t ∧ t.sinkLog = s.sinkLog ∧ t.sampleWidthCfg = s.sampleWidthCfg)

/-- A read has no side effect on the block, in any state (R36); it returns the register where the flags and the length say
that it holds a result (R27, R196). What it returns elsewhere is left open. -/
def Obligations.ReadReturnsResults : Prop :=
  ∀ (s : State) (script : List HostAction) (p : Port),
    ∃ t, step (s.withScript (.read p :: script)) = .next t ∧
      t = { s.withScript script with hostRead := t.hostRead, draws := t.draws } ∧
      (p = .busy → t.hostRead = bif s.busy then 1 else 0) ∧
      (p = .done → t.hostRead = bif s.done then 1 else 0) ∧
      (p = .dValid → s.busy = false → t.hostRead = bif s.dValid then 1 else 0) ∧
      (p = .dCause → s.busy = false → t.hostRead = s.dCause.setWidth 32) ∧
      (p = .xOk → s.busy = false → t.hostRead = bif s.xOk then 1 else 0) ∧
      (p = .xCause → s.busy = false → t.hostRead = s.xCause.setWidth 32) ∧
      (p = .msgType → s.busy = false → s.dValid = true → t.hostRead = s.msgType.setWidth 32) ∧
      (p = .family → s.busy = false → s.dValid = true → t.hostRead = bif s.msgType.getLsbD 2 then 1 else 0) ∧
      (p = .itemCode → s.busy = false → s.dValid = true → t.hostRead = s.itemCode.setWidth 32) ∧
      (p = .seqNum → s.busy = false → s.dValid = true → t.hostRead = s.seqNum.setWidth 32) ∧
      (p = .bodyLen → s.busy = false → s.dValid = true → t.hostRead = s.bodyLen.setWidth 32) ∧
      (∀ a b, p = .bodyByte a → s.busy = false → s.dValid = true → a.toNat < s.bodyLen.toNat →
        s.bodyByte? a.toNat = some b → t.hostRead = b.setWidth 32) ∧
      (p = .sampleCount → s.busy = false → s.xOk = true → t.hostRead = s.sampleCount.setWidth 32) ∧
      (∀ i w, p = .sample i → s.busy = false → s.xOk = true → i.toNat < s.sampleCount.toNat →
        s.sample? i.toNat = some w → t.hostRead = w)

/-! The frame decoder (40_frame_decode.md). -/

/-- R86 and R88 to R91: the headers of a control-item type decode to its instruction; it runs on a frame whose lengths
agree. With a known item code it is valid, with its type, its
code, sequence number 0 and the bytes after field2 as the body; with an unknown one it is `Invalid(UnknownItemCode)`.
Nothing but the decoder results changes in either case. -/
def Obligations.ControlItemMessages : Prop :=
  ∀ (mk : Nat → Instr) (type : BitVec 3),
    (mk, type) ∈ [(Instr.setControlItem, 0b000#3), (Instr.currentControlItem, 0b001#3),
      (Instr.controlItemRange, 0b010#3), (Instr.ack, 0b011#3)] →
    (∀ h : Half, headerType h = type → decodeHeader h = mk (headerLength h)) ∧
    ∀ (s : State) (n : Nat), n = s.inLen.toNat → 4 ≤ n → n ≤ 8191 →
      (s.inField2 ∈ Config.codes.known →
        ∃ t, exec (mk n) s = .next t ∧ DecodedAs s t type s.inField2 0 ∧ DecodeFrame s t) ∧
      (s.inField2 ∉ Config.codes.known →
        ∃ t, exec (mk n) s = .next t ∧ DecodedInvalid t 2 ∧ DecodeFrame s t)

/-- R87 and R92 to R95: the headers of a data-item type decode to its instruction; on a frame whose lengths agree it is
valid, with its type, the code none, field2 as the
sequence number and the bytes after it as the body; every 16-bit sequence number is legal. -/
def Obligations.DataItemMessages : Prop :=
  ∀ (mk : Nat → Instr) (type : BitVec 3),
    (mk, type) ∈ [(Instr.dataItem0, 0b100#3), (Instr.dataItem1, 0b101#3), (Instr.dataItem2, 0b110#3),
      (Instr.dataItem3, 0b111#3)] →
    (∀ h : Half, headerType h = type → decodeHeader h = mk (headerLength h)) ∧
    ∀ (s : State) (n : Nat), n = s.inLen.toNat → 4 ≤ n → n ≤ 8191 →
      ∃ t, exec (mk n) s = .next t ∧ DecodedAs s t type Config.codes.noneCode s.inField2 ∧ DecodeFrame s t

/-- R83 and R84: a message of any type whose declared length is not the input's, or is below 4, is
`Invalid(FramingError)`, and nothing but the decoder results changes. -/
def Obligations.MessageLengthChecks : Prop :=
  ∀ mk ∈ [Instr.setControlItem, Instr.currentControlItem, Instr.controlItemRange, Instr.ack, Instr.dataItem0,
      Instr.dataItem1, Instr.dataItem2, Instr.dataItem3],
    ∀ (s : State) (n : Nat), n ≠ s.inLen.toNat ∨ s.inLen.toNat < 4 →
      ∃ t, exec (mk n) s = .next t ∧ DecodedInvalid t 1 ∧ DecodeFrame s t

/-- `DECODE` of a frame that passes the length checks: a data-item frame is always valid, a control-item frame where its
code is known (R80, R85 to R87). -/
def Obligations.DecodeAcceptsFrames : Prop :=
  ∀ s : State, s.HoldsFrame →
    (familyBit (headerType s.inHeader) = true →
      ∃ t, exec .decode s = .next t ∧
        DecodedAs s t (headerType s.inHeader) Config.codes.noneCode s.inField2 ∧ DecodeFrame s t) ∧
    (familyBit (headerType s.inHeader) = false → s.inField2 ∈ Config.codes.known →
      ∃ t, exec .decode s = .next t ∧ DecodedAs s t (headerType s.inHeader) s.inField2 0 ∧ DecodeFrame s t)

/-- R162, R163: when `DECODE` is valid, and which cause it records when it is not, for every input. The cases are
exclusive and leave none out. -/
def Obligations.DecodeStatusIsExact : Prop :=
  ∀ s : State, ∃ t, exec .decode s = .next t ∧ DecodeFrame s t ∧
    (t.dCause = 1 ↔ s.inLen.toNat < 2 ∨ headerLength s.inHeader ≠ s.inLen.toNat ∨ s.inLen.toNat < 4) ∧
    (t.dCause = 2 ↔ s.HoldsFrame ∧ familyBit (headerType s.inHeader) = false ∧ s.inField2 ∉ Config.codes.known) ∧
    (t.dCause = 0 ↔ s.HoldsFrame ∧
      (familyBit (headerType s.inHeader) = true ∨ s.inField2 ∈ Config.codes.known)) ∧
    (t.dValid = true ↔ t.dCause = 0) ∧ t.dCause.toNat ≤ 2

/-- R99: an input longer than 8191 bytes is `Invalid(FramingError)`. -/
def Obligations.OverlongInputIsInvalid : Prop :=
  ∀ s : State, 8191 < s.inLen.toNat → ∃ t, exec .decode s = .next t ∧ DecodedInvalid t 1 ∧ DecodeFrame s t

/-- R101: cutting trailing bytes off an accepted frame makes it `Invalid(FramingError)`, over any code table. -/
def Obligations.TruncationIsInvalid : Prop :=
  ∀ (codes : Config.CodeTable) (frame : List Byte) (type : BitVec 3) (code seq : Half) (body : List Byte),
    decodeFrame codes frame = .valid type code seq body →
    ∀ k, 1 ≤ k → k ≤ frame.length → decodeFrame codes (frame.take (frame.length - k)) = .invalid .framingError

/-- R102: overwriting the item code of an accepted control-item frame with an unknown one makes it
`Invalid(UnknownItemCode)`, over any code table. -/
def Obligations.UnknownCodeIsInvalid : Prop :=
  ∀ (codes : Config.CodeTable) (frame : List Byte) (type : BitVec 3) (code seq : Half) (body : List Byte) (c0 c1 : Byte),
    decodeFrame codes frame = .valid type code seq body → familyBit type = false →
    halfOfBytes c0 c1 ∉ codes.known →
    decodeFrame codes (frame.take 2 ++ [c0, c1] ++ frame.drop 4) = .invalid .unknownItemCode

/-- R100: a valid decode accounts for every byte of its input: header, field2, body. -/
def Obligations.ValidFrameKeepsEveryByte : Prop :=
  ∀ s t : State, exec .decode s = .next t → t.dValid = true →
    4 ≤ s.inLen.toNat ∧ s.inLen.toNat ≤ 8191 ∧ t.bodyLen.toNat = s.inLen.toNat - 4 ∧ t.bodyLen.toNat ≤ 8187 ∧
    s.inBytes = bytesOfHalf s.inHeader ++ bytesOfHalf s.inField2 ++ t.bodyBytes

/-- R12: what an operation answers depends on the present input and, for `STREAM`, on the configured width, and on no
earlier result. Values the spec leaves unspecified are not compared. -/
def Obligations.ResultsIgnoreHistory : Prop :=
  ∀ s s' : State, s.inBytes = s'.inBytes →
    (∀ t t', exec .decode s = .next t → exec .decode s' = .next t' →
      t.dValid = t'.dValid ∧ t.dCause = t'.dCause ∧
      (t.dValid = true → t.msgType = t'.msgType ∧ t.itemCode = t'.itemCode ∧ t.seqNum = t'.seqNum ∧
        t.body = t'.body ∧ t.bodyLen = t'.bodyLen)) ∧
    (∀ n t t', exec (.extract n) s = .next t → exec (.extract n) s' = .next t' →
      t.xOk = t'.xOk ∧ t.xCause = t'.xCause ∧
      (t.xOk = true → t.samples = t'.samples ∧ t.sampleCount = t'.sampleCount)) ∧
    (s.sampleWidthCfg = s'.sampleWidthCfg → ∀ t t', exec .stream s = .next t → exec .stream s' = .next t' →
      t.dValid = t'.dValid ∧ t.dCause = t'.dCause ∧ t.xOk = t'.xOk ∧ t.xCause = t'.xCause ∧
      (t.dValid = true → t.msgType = t'.msgType ∧ t.itemCode = t'.itemCode ∧ t.seqNum = t'.seqNum ∧
        t.body = t'.body ∧ t.bodyLen = t'.bodyLen) ∧
      (t.xOk = true → t.samples = t'.samples ∧ t.sampleCount = t'.sampleCount))

/-! The sample unpacker (41_sample_unpack.md). -/

/-- R117 to R120: each width's operand, the samples of `IN` by their bytes, with the tail that fills no chunk dropped, and
their range: below 32 bits a sample is never negative, at 32 bits it is negative exactly when its fourth byte is at least
`0x80`. Nothing but the unpacker results changes. -/
def Obligations.SampleWidths : Prop :=
  ∀ s : State,
    (decodeWidth 0x0008 = .ok .extract8 ∧
      ∃ t, exec .extract8 s = .next t ∧ ExtractedAs t s.inLen.toNat (word8 s.inByte) ∧ ExtractFrame s t ∧
        ∀ i x, t.sample? i = some x → 0 ≤ x.toInt ∧ x.toInt ≤ 255) ∧
    (decodeWidth 0x0010 = .ok .extract16 ∧
      ∃ t, exec .extract16 s = .next t ∧ ExtractedAs t (s.inLen.toNat / 2) (word16 s.inByte) ∧ ExtractFrame s t ∧
        ∀ i x, t.sample? i = some x → 0 ≤ x.toInt ∧ x.toInt ≤ 65535) ∧
    (decodeWidth 0x0018 = .ok .extract24 ∧
      ∃ t, exec .extract24 s = .next t ∧ ExtractedAs t (s.inLen.toNat / 3) (word24 s.inByte) ∧ ExtractFrame s t ∧
        ∀ i x, t.sample? i = some x → 0 ≤ x.toInt ∧ x.toInt ≤ 16777215) ∧
    (decodeWidth 0x0020 = .ok .extract32 ∧
      ∃ t, exec .extract32 s = .next t ∧ ExtractedAs t (s.inLen.toNat / 4) (word32 s.inByte) ∧ ExtractFrame s t ∧
        ∀ i x, t.sample? i = some x → -2 ^ 31 ≤ x.toInt ∧ x.toInt ≤ 2 ^ 31 - 1 ∧
          (x.toInt < 0 ↔ 0x80 ≤ (s.inByte (4 * i + 3)).toNat))

/-- `EXTRACT` with each supported operand (R110, R112 to R114). -/
def Obligations.ExtractSupportedWidths : Prop :=
  ∀ (s : State) (w : Nat), 1 ≤ w → w ≤ 4 →
    ∃ t, exec (.extract (8 * w)) s = .next t ∧
      ExtractedAs t (s.inLen.toNat / w) (sampleWord w s.inByte) ∧ ExtractFrame s t

/-- R111, R121: `EXTRACT` with any other operand fails with `UnsupportedSampleWidth`, whatever the payload, also an empty
one; nothing is sent to the sink. -/
def Obligations.ExtractUnsupportedWidths : Prop :=
  ∀ (s : State) (n : Nat), n ≠ 8 → n ≠ 16 → n ≠ 24 → n ≠ 32 →
    ∃ t, exec (.extract n) s = .next t ∧ ExtractStatus t 3 ∧ ExtractFrame s t

/-- R115: the bytes after the last whole chunk change nothing and raise no error; a payload shorter than a chunk gives the
empty sequence. -/
def Obligations.TailIsDropped : Prop :=
  ∀ (w : Nat) (p q : List Byte), 1 ≤ w → w ≤ 4 → w ∣ p.length → q.length < w →
    extractPayload (8 * w) (p ++ q) = extractPayload (8 * w) p ∧ extractPayload (8 * w) q = .ok []

/-- R116: the empty payload gives the empty sequence at a supported width and the failure of R111 at any other. -/
def Obligations.EmptyPayload : Prop :=
  ∀ (s : State) (n : Nat), s.inLen = 0 →
    ((n = 8 ∨ n = 16 ∨ n = 24 ∨ n = 32) →
      ∃ t, exec (.extract n) s = .next t ∧ t.xOk = true ∧ t.xCause = 0 ∧ t.sampleCount = 0 ∧ ExtractFrame s t) ∧
    (¬ (n = 8 ∨ n = 16 ∨ n = 24 ∨ n = 32) →
      ∃ t, exec (.extract n) s = .next t ∧ ExtractStatus t 3 ∧ ExtractFrame s t)

/-- R124: writing the samples back as their low bytes gives the payload without its tail, and the bytes above them are
zero. -/
def Obligations.SamplesReassemble : Prop :=
  ∀ (w : Nat) (p : List Byte) (samples : List Word), 1 ≤ w → w ≤ 4 → extractPayload (8 * w) p = .ok samples →
    samples.length = p.length / w ∧
    (samples.map (lowBytes w)).flatten = p.take (p.length / w * w) ∧
    ∀ x ∈ samples, x.toNat < 256 ^ w

/-! `STREAM` and `CFGW` (42_stream_and_host_ops.md). -/

/-- `STREAM` of a data-item frame at a supported configured width: the decode, the samples of its body, and one sink event
that carries the sequence number and the samples as signed integers (R132 steps 1 and 2, R134). -/
def Obligations.StreamDataItem : Prop :=
  ∀ (s : State) (w : Nat), s.HoldsFrame → familyBit (headerType s.inHeader) = true →
    1 ≤ w → w ≤ 4 → s.sampleWidthCfg.toNat = 8 * w →
    ∃ t, exec .stream s = .next t ∧
      DecodedAs s t (headerType s.inHeader) Config.codes.noneCode s.inField2 ∧
      ExtractedAs t ((s.inLen.toNat - 4) / w) (sampleWord w fun a => s.inByte (4 + a)) ∧
      t.sinkValid = true ∧
      t.sinkLog = s.sinkLog ++ [{
        sequenceNumber := s.inField2
        samples := (List.range ((s.inLen.toNat - 4) / w)).map fun i =>
          (sampleWord w (fun a => s.inByte (4 + a)) i).toInt }] ∧
      HostSideKept s t ∧ t.sampleWidthCfg = s.sampleWidthCfg

/-- R172: the three ways a `STREAM` ends without samples, told apart by `D_VALID` and `X_CAUSE`; none emits a sink event. -/
def Obligations.StreamWithoutSamples : Prop :=
  ∀ s : State,
    (s.HoldsFrame → familyBit (headerType s.inHeader) = true → byteWidth? s.sampleWidthCfg.toNat = none →
      ∃ t, exec .stream s = .next t ∧
        DecodedAs s t (headerType s.inHeader) Config.codes.noneCode s.inField2 ∧ ExtractStatus t 3 ∧ SinkKept s t ∧
        HostSideKept s t ∧ t.sampleWidthCfg = s.sampleWidthCfg) ∧
    (s.HoldsFrame → familyBit (headerType s.inHeader) = false → s.inField2 ∈ Config.codes.known →
      ∃ t, exec .stream s = .next t ∧
        DecodedAs s t (headerType s.inHeader) s.inField2 0 ∧ ExtractStatus t 0 ∧ SinkKept s t ∧
        HostSideKept s t ∧ t.sampleWidthCfg = s.sampleWidthCfg) ∧
    (s.HoldsFrame → familyBit (headerType s.inHeader) = false → s.inField2 ∉ Config.codes.known →
      ∃ t, exec .stream s = .next t ∧ DecodedInvalid t 2 ∧ ExtractStatus t 0 ∧ SinkKept s t ∧
        HostSideKept s t ∧ t.sampleWidthCfg = s.sampleWidthCfg) ∧
    (¬ s.HoldsFrame →
      ∃ t, exec .stream s = .next t ∧ DecodedInvalid t 1 ∧ ExtractStatus t 0 ∧ SinkKept s t ∧
        HostSideKept s t ∧ t.sampleWidthCfg = s.sampleWidthCfg)

/-- R198: for a data-item frame, `STREAM` gives the samples that the host gets by decoding, copying `BODY` into `IN`, and
extracting at the configured width. -/
def Obligations.StreamIsDecodeCopyExtract : Prop :=
  ∀ s d x t : State, exec .decode s = .next d → d.dValid = true → familyBit d.msgType = true →
    exec (.extract s.sampleWidthCfg.toNat) (d.hostLoad d.bodyBytes) = .next x → exec .stream s = .next t →
    DecoderKept d t ∧ t.xOk = x.xOk ∧ t.xCause = x.xCause ∧
    (t.xOk = true → t.samples = x.samples ∧ t.sampleCount = x.sampleCount)

/-- R133: `CFGW` stores its operand unchecked and changes nothing else. -/
def Obligations.CfgwStoresWidth : Prop :=
  ∀ (s : State) (n : Nat), n ≤ 65535 →
    ∃ t, exec (.cfgw n) s = .next t ∧ t.sampleWidthCfg.toNat = n ∧
      HostSideKept s t ∧ DecoderKept s t ∧ UnpackerKept s t ∧ SinkKept s t

/-! The whole machine. -/

/-- Every step keeps the invariant of the results, the statuses and the buffers, whatever the host does. -/
def Obligations.StepKeepsInvariant : Prop :=
  ∀ s t : State, Inv s → step s = .next t → Inv t

/-- The reset state has the invariant. That its buffers list nothing and its registers are zero where R24 says
`unspecified` is the model's choice (log entry 1). -/
def Obligations.ResetHasInvariant : Prop := Inv State.reset

/-- No instruction writes the input or its length: only the host does (R13). -/
def Obligations.OnlyHostWritesInput : Prop :=
  ∀ (i : Instr) (s t : State), exec i s = .next t → HostSideKept s t

/-- The flag table of R23 and the one writer of `SAMPLE_WIDTH_CFG` (R20), over all instructions. -/
def Obligations.WritersOfFlagsAndWidth : Prop :=
  ∀ (i : Instr) (s t : State), exec i s = .next t →
    (t.sampleWidthCfg ≠ s.sampleWidthCfg → ∃ n, i = .cfgw n) ∧
    (t.dValid ≠ s.dValid ∨ t.dCause ≠ s.dCause → i = .decode ∨ i = .stream ∨ i.level = .header) ∧
    (t.xOk ≠ s.xOk ∨ t.xCause ≠ s.xCause → (∃ n, i = .extract n) ∨ i = .stream ∨ i.level = .width) ∧
    (t.sinkLog ≠ s.sinkLog → i = .stream)

/-- R134: the sink's history only grows, by at most one event a step, and only in a step that completes a `STREAM` of a
valid data-item frame whose extraction succeeded; the event carries that operation's sequence number and sample count. -/
def Obligations.SinkEventsOnlyFromStream : Prop :=
  ∀ s t : State, step s = .next t →
    t.sinkLog = s.sinkLog ∨
    ∃ e c, t.sinkLog = s.sinkLog ++ [e] ∧ t.sinkValid = true ∧ t.done = true ∧ t.busy = false ∧
      (s.nextAction = .issue c ∨ (s.nextAction = .wait ∧ s.inFlight = some c)) ∧
      decodeCommand c.cmd c.bitWidth = .stream ∧
      t.dValid = true ∧ familyBit t.msgType = true ∧ t.xOk = true ∧
      e.sequenceNumber = t.seqNum ∧ e.samples = t.sampleWords.map BitVec.toInt

/-! The reference encoders (43_frame_encode_reference.md). -/

/-- R146: decoding an encoded control item gives its type, code and parameters, over any code table. -/
def Obligations.ControlItemRoundTrip : Prop :=
  ∀ (codes : Config.CodeTable) (type : BitVec 3) (code : Half) (parameters : List Byte),
    familyBit type = false → code ∈ codes.known → parameters.length ≤ 8187 →
    ∃ frame, encodeControlItem codes type code parameters = .frame frame ∧
      decodeFrame codes frame = .valid type code 0 parameters

/-- R147: decoding an encoded data item whose payload begins with a sequence number gives it and the rest, over any code
table. -/
def Obligations.DataItemRoundTrip : Prop :=
  ∀ (codes : Config.CodeTable) (type : BitVec 3) (seq : Half) (p : List Byte),
    familyBit type = true → p.length ≤ 8187 →
    ∃ frame, encodeDataItem type (bytesOfHalf seq ++ p) = .frame frame ∧
      decodeFrame codes frame = .valid type codes.noneCode seq p

/-- R149: the boundary of the control-item encoder, and the first bytes of the largest frames. -/
def Obligations.EncoderBoundary : Prop :=
  ∀ (codes : Config.CodeTable) (code : Half) (p q : List Byte), code ∈ codes.known →
    p.length = 8187 → q.length = 8188 →
    (∀ type, familyBit type = false →
      (∃ frame, encodeControlItem codes type code p = .frame frame ∧ frame.length = 8191) ∧
      encodeControlItem codes type code q = .fail .lengthExceeded) ∧
    (∃ rest, encodeControlItem codes 0b000 code p = .frame (0xFF :: 0x1F :: rest)) ∧
    (∃ rest, encodeControlItem codes 0b011 code p = .frame (0xFF :: 0x7F :: rest)) ∧
    (∀ body : List Byte, body.length = 8189 → ∃ rest, encodeDataItem 0b111 body = .frame (0xFF :: 0xFF :: rest))

/-- R144: within their domains the encoders fail with `LengthExceeded` exactly beyond the 8191-byte frame, and produce a
frame up to it. -/
def Obligations.EncodersRejectOverlong : Prop :=
  ∀ (codes : Config.CodeTable) (type : BitVec 3) (code : Half) (p : List Byte),
    (familyBit type = false → code ∈ codes.known →
      (encodeControlItem codes type code p = .fail .lengthExceeded ↔ 8188 ≤ p.length) ∧
      ((∃ frame, encodeControlItem codes type code p = .frame frame) ↔ p.length ≤ 8187)) ∧
    (familyBit type = true →
      (encodeDataItem type p = .fail .lengthExceeded ↔ 8190 ≤ p.length) ∧
      ((∃ frame, encodeDataItem type p = .frame frame) ↔ p.length ≤ 8189))

/-- R145: outside their preconditions the encoders give no result. -/
def Obligations.EncodersRefuseOutsideDomain : Prop :=
  ∀ (codes : Config.CodeTable) (type : BitVec 3) (code : Half) (p : List Byte),
    (familyBit type = true ∨ code ∉ codes.known → encodeControlItem codes type code p = .refused) ∧
    (familyBit type = false → encodeDataItem type p = .refused)

/-- R150: the header of every frame an encoder produces declares the frame's own length. -/
def Obligations.EncodedLengthIsDeclared : Prop :=
  ∀ (codes : Config.CodeTable) (type : BitVec 3) (code : Half) (p frame : List Byte),
    (encodeControlItem codes type code p = .frame frame ∨ encodeDataItem type p = .frame frame) →
    headerLength (headerWord frame) = frame.length ∧ headerType (headerWord frame) = type
end

