-- ==== Sys2Proof/Laws/Decode.lean ====
section
/-! SUPPORT. The small lemmas of the decoder and the encoder: bytes and halves, the two fields of a header, and what each
decoder can answer. -/

namespace Sys2Proof

@[simp] theorem lengthFits_iff (n : Nat) : lengthFits n = true ↔ n ≤ 8191 := decide_eq_true_iff

@[simp] theorem bitWidthFits_iff (n : Nat) : bitWidthFits n = true ↔ n ≤ 65535 := decide_eq_true_iff

@[simp] theorem bytesOfHalf_length (h : Half) : (bytesOfHalf h).length = 2 := rfl

/-- The two bytes of a half put together again (R32). -/
@[simp] theorem halfOfBytes_bytesOfHalf (h : Half) :
    halfOfBytes (h.extractLsb' 0 8) (h.extractLsb' 8 8) = h := by
  apply BitVec.eq_of_getLsbD_eq
  intro i hi
  simp only [halfOfBytes, BitVec.getLsbD_append, BitVec.getLsbD_extractLsb']
  by_cases h8 : i < 8
  · simp [h8]
  · have : 8 + (i - 8) = i := by omega
    simp [h8, this, show i - 8 < 8 by omega]

/-- Two bytes read back from their half (R32). -/
@[simp] theorem bytesOfHalf_halfOfBytes (b0 b1 : Byte) : bytesOfHalf (halfOfBytes b0 b1) = [b0, b1] := by
  have h0 : BitVec.extractLsb' 0 8 (b1 ++ b0) = b0 := by
    apply BitVec.eq_of_getLsbD_eq
    intro i hi
    rw [BitVec.getLsbD_extractLsb', BitVec.getLsbD_append]
    simp [hi]
  have h1 : BitVec.extractLsb' 8 8 (b1 ++ b0) = b1 := by
    apply BitVec.eq_of_getLsbD_eq
    intro i hi
    rw [BitVec.getLsbD_extractLsb', BitVec.getLsbD_append]
    simp [hi]
  exact congrArg₂ (fun x y => [x, y]) h0 h1

@[simp] theorem headerType_headerOf (t : BitVec 3) (n : Nat) : headerType (headerOf t n) = t := by
  apply BitVec.eq_of_getLsbD_eq
  intro i hi
  simp only [headerType, headerOf, BitVec.getLsbD_extractLsb', BitVec.getLsbD_append]
  have : 13 + i - 13 = i := by omega
  simp [hi, this]

theorem headerLength_headerOf (t : BitVec 3) {n : Nat} (h : n ≤ 8191) :
    headerLength (headerOf t n) = n := by
  have : (headerOf t n).extractLsb' 0 13 = BitVec.ofNat 13 n := by
    apply BitVec.eq_of_getLsbD_eq
    intro i hi
    simp only [headerOf, BitVec.getLsbD_extractLsb', BitVec.getLsbD_append]
    simp [hi]
  rw [headerLength, this, BitVec.toNat_ofNat]
  omega

/-- The length field holds at most 8191 (R61, R99). -/
theorem headerLength_le (h : Half) : headerLength h ≤ 8191 := by
  have := (h.extractLsb' 0 13).isLt
  simp only [headerLength]
  omega

/-- A header put together decodes to the message type of its number (R53). -/
theorem decodeHeader_headerOf (t : BitVec 3) {n : Nat} (h : n ≤ 8191) :
    decodeHeader (headerOf t n) = messageInstr t n := by
  rw [decodeHeader, headerType_headerOf, headerLength_headerOf t h]

/-- The eight values of a message type (R53). -/
theorem type_cases : ∀ t : BitVec 3,
    t = 0b000#3 ∨ t = 0b001#3 ∨ t = 0b010#3 ∨ t = 0b011#3 ∨ t = 0b100#3 ∨ t = 0b101#3 ∨ t = 0b110#3 ∨ t = 0b111#3 := by
  decide

/-- What a message type's number names (R53): one of the eight types with that length. -/
theorem messageInstr_cases (t : BitVec 3) (n : Nat) :
    messageInstr t n = .setControlItem n ∨ messageInstr t n = .currentControlItem n ∨
      messageInstr t n = .controlItemRange n ∨ messageInstr t n = .ack n ∨ messageInstr t n = .dataItem0 n ∨
      messageInstr t n = .dataItem1 n ∨ messageInstr t n = .dataItem2 n ∨ messageInstr t n = .dataItem3 n := by
  unfold messageInstr
  split <;> simp

/-- What a command pair encodes (R63). -/
theorem decodeCommand_cases (c : BitVec 2) (b : Half) :
    decodeCommand c b = .decode ∨ decodeCommand c b = .extract b.toNat ∨ decodeCommand c b = .stream ∨
      decodeCommand c b = .cfgw b.toNat := by
  unfold decodeCommand
  split <;> simp

/-- A command pair laid out as bytes reads back as the instruction it encodes. -/
theorem decode_commandBytes (c : BitVec 2) (b : Half) (rest : List Byte) :
    decode .command (commandBytes c b ++ rest) = .ok (decodeCommand c b, rest) := by
  have h : (c.setWidth 8).extractLsb' 0 2 = c := by
    apply BitVec.eq_of_getLsbD_eq
    intro i hi
    simp [hi, show i < 8 by omega]
  simp [commandBytes, bytesOfHalf, decode, h]

end Sys2Proof
end

