-- ==== Sys2Proof/Laws/Flags.lean ====
section
/-! SUPPORT. The status flags by cause (R15, R19, R161). -/

namespace Sys2Proof.Machine

@[simp] theorem decodeStatus_noError : decodeStatus .noError = (true, 0) := rfl
@[simp] theorem decodeStatus_framingError : decodeStatus .framingError = (false, 1) := rfl
@[simp] theorem decodeStatus_unknownItemCode : decodeStatus .unknownItemCode = (false, 2) := rfl
@[simp] theorem extractStatus_noError : extractStatus .noError = (true, 0) := rfl
@[simp] theorem extractStatus_unsupportedSampleWidth : extractStatus .unsupportedSampleWidth = (false, 3) := rfl
@[simp] theorem extractNotRun_eq : extractNotRun = (false, 0) := rfl
@[simp] theorem causeCode_noError : causeCode .noError = 0 := rfl
@[simp] theorem causeCode_framingError : causeCode .framingError = 1 := rfl
@[simp] theorem causeCode_unknownItemCode : causeCode .unknownItemCode = 2 := rfl
@[simp] theorem causeCode_unsupportedSampleWidth : causeCode .unsupportedSampleWidth = 3 := rfl

end Sys2Proof.Machine
end

