-- ==== Sys2Proof/Laws/Memory.lean ====
section
/-! SUPPORT. The laws of the buffers: what a read gives after each kind of write, and that every write keeps the canonical
form. -/

namespace Sys2Proof.Machine

variable {α : Type}

/-! Canonical form, as a sorted list of bounded addresses. -/

theorem cells_wf_iff (bound : Nat) (m : Cells α) :
    Cells.wf bound m = true ↔ m.Pairwise (fun c d => c.1 < d.1) ∧ ∀ c ∈ m, c.1 < bound := by
  induction m with
  | nil => simp [Cells.wf]
  | cons c rest ih =>
    cases rest with
    | nil => simp [Cells.wf]
    | cons d rest =>
      simp only [Cells.wf, Bool.and_eq_true, decide_eq_true_eq, ih]
      constructor
      · rintro ⟨hcd, hp, hb⟩
        refine ⟨List.pairwise_cons.2 ⟨?_, hp⟩, ?_⟩
        · intro e he
          rcases List.mem_cons.1 he with rfl | he
          · exact hcd
          · exact hcd.trans ((List.pairwise_cons.1 hp).1 e he)
        · intro e he
          rcases List.mem_cons.1 he with rfl | he
          · exact hcd.trans (hb d (by simp))
          · exact hb e he
      · rintro ⟨hp, hb⟩
        have h := List.pairwise_cons.1 hp
        exact ⟨h.1 d (by simp), h.2, fun e he => hb e (List.mem_cons_of_mem _ he)⟩

@[simp] theorem cells_wf_nil (bound : Nat) : Cells.wf bound ([] : Cells α) = true := rfl

/-! Reads. -/

@[simp] theorem cells_read_nil (a : Nat) : Cells.read ([] : Cells α) a = none := rfl

theorem cells_read_cons (c : Nat × α) (m : Cells α) (a : Nat) :
    Cells.read (c :: m) a = if c.1 = a then some c.2 else Cells.read m a := rfl

/-- A read after a write of one cell. -/
theorem cells_read_write (m : Cells α) (a b : Nat) (v : α) :
    Cells.read (Cells.write m a v) b = if a = b then some v else Cells.read m b := by
  induction m with
  | nil => simp [Cells.write, cells_read_cons]
  | cons c rest ih =>
    unfold Cells.write
    split
    · simp [cells_read_cons]
    · split
      · rename_i h; subst h; simp only [cells_read_cons]; split <;> simp_all
      · simp only [cells_read_cons, ih]
        split <;> split <;> simp_all

theorem cells_read_write_same (m : Cells α) (a : Nat) (v : α) : Cells.read (Cells.write m a v) a = some v := by
  simp [cells_read_write]

theorem cells_read_write_other (m : Cells α) {a b : Nat} (v : α) (h : a ≠ b) :
    Cells.read (Cells.write m a v) b = Cells.read m b := by
  simp [cells_read_write, h]

/-- A read of consecutive cells. -/
theorem cells_read_ofList (vs : List α) (base a : Nat) :
    Cells.read (Cells.ofList base vs) a = if base ≤ a then vs[a - base]? else none := by
  induction vs generalizing base with
  | nil => simp [Cells.ofList]
  | cons v vs ih =>
    simp only [Cells.ofList, cells_read_cons, ih]
    rcases Nat.lt_trichotomy base a with h | h | h
    · have : a - base = (a - (base + 1)) + 1 := by omega
      simp [this, Nat.ne_of_lt h, Nat.le_of_lt h, Nat.succ_le_of_lt h]
    · subst h; simp
    · simp [Nat.not_le_of_lt h, (Nat.ne_of_lt h).symm, show ¬ base + 1 ≤ a by omega]

@[simp] theorem cells_read_ofList_zero (vs : List α) (a : Nat) : Cells.read (Cells.ofList 0 vs) a = vs[a]? := by
  simp [cells_read_ofList]

theorem cells_read_append (m n : Cells α) (a : Nat) :
    Cells.read (m ++ n) a = (Cells.read m a).or (Cells.read n a) := by
  induction m with
  | nil => simp
  | cons c rest ih =>
    simp only [List.cons_append, cells_read_cons, ih]
    split <;> simp

theorem cells_read_filter_ge (m : Cells α) (n a : Nat) :
    Cells.read (m.filter fun c => decide (n ≤ c.1)) a = if n ≤ a then Cells.read m a else none := by
  induction m with
  | nil => simp
  | cons c rest ih =>
    simp only [List.filter_cons, decide_eq_true_eq]
    split
    · simp only [cells_read_cons, ih]
      split <;> simp_all
    · rw [ih]
      split
      · rw [cells_read_cons, if_neg (by omega)]
      · rfl

/-- A read after `LOAD`: the loaded value where there is one, else what stood there. -/
theorem cells_read_overwrite (m : Cells α) (vs : List α) (a : Nat) :
    Cells.read (Cells.overwrite m vs) a = if a < vs.length then vs[a]? else Cells.read m a := by
  unfold Cells.overwrite
  rw [cells_read_append, cells_read_ofList_zero, cells_read_filter_ge]
  split
  · simp_all
  · simp_all

/-! Every write keeps the canonical form. -/

theorem cells_write_mem {m : Cells α} {a : Nat} {v : α} {c : Nat × α} (h : c ∈ Cells.write m a v) :
    c = (a, v) ∨ c ∈ m := by
  induction m with
  | nil => simpa [Cells.write] using h
  | cons d rest ih =>
    unfold Cells.write at h
    split at h
    · simpa using h
    · split at h
      · rcases List.mem_cons.1 h with h | h
        · exact .inl h
        · exact .inr (List.mem_cons_of_mem _ h)
      · rcases List.mem_cons.1 h with h | h
        · exact .inr (by simp [h])
        · rcases ih h with h | h
          · exact .inl h
          · exact .inr (List.mem_cons_of_mem _ h)

theorem cells_write_wf {bound : Nat} {m : Cells α} (hm : Cells.wf bound m = true) {a : Nat} (ha : a < bound) (v : α) :
    Cells.wf bound (Cells.write m a v) = true := by
  rw [cells_wf_iff] at hm ⊢
  refine ⟨?_, fun c hc => ?_⟩
  · induction m with
    | nil => simp [Cells.write]
    | cons d rest ih =>
      obtain ⟨hp, hb⟩ := hm
      have hp' := List.pairwise_cons.1 hp
      unfold Cells.write
      split
      · rename_i h
        refine List.pairwise_cons.2 ⟨fun e he => ?_, hp⟩
        rcases List.mem_cons.1 he with rfl | he
        · exact h
        · exact Nat.lt_trans h (hp'.1 e he)
      · split
        · rename_i h
          exact List.pairwise_cons.2 ⟨fun e he => by simpa [h] using hp'.1 e he, hp'.2⟩
        · refine List.pairwise_cons.2 ⟨fun e he => ?_, ih ⟨hp'.2, fun e he => hb e (List.mem_cons_of_mem _ he)⟩⟩
          rcases cells_write_mem he with rfl | he
          · simp; omega
          · exact hp'.1 e he
  · rcases cells_write_mem hc with rfl | hc
    · exact ha
    · exact hm.2 c hc

theorem cells_ofList_mem {vs : List α} {base : Nat} {c : Nat × α} (h : c ∈ Cells.ofList base vs) :
    base ≤ c.1 ∧ c.1 < base + vs.length := by
  induction vs generalizing base with
  | nil => simp [Cells.ofList] at h
  | cons v vs ih =>
    rcases List.mem_cons.1 h with rfl | h
    · simp
    · have := ih h
      simp only [List.length_cons]
      omega

theorem cells_ofList_sorted (vs : List α) (base : Nat) :
    (Cells.ofList base vs).Pairwise (fun c d => c.1 < d.1) := by
  induction vs generalizing base with
  | nil => simp [Cells.ofList]
  | cons v vs ih =>
    refine List.pairwise_cons.2 ⟨fun e he => ?_, ih _⟩
    have := (cells_ofList_mem he).1
    simp only
    omega

theorem cells_ofList_wf {bound : Nat} {vs : List α} (h : vs.length ≤ bound) :
    Cells.wf bound (Cells.ofList 0 vs) = true := by
  rw [cells_wf_iff]
  refine ⟨cells_ofList_sorted vs 0, fun c hc => ?_⟩
  have := (cells_ofList_mem hc).2
  omega

theorem cells_overwrite_wf {bound : Nat} {m : Cells α} (hm : Cells.wf bound m = true) {vs : List α}
    (h : vs.length ≤ bound) : Cells.wf bound (Cells.overwrite m vs) = true := by
  rw [cells_wf_iff] at hm ⊢
  refine ⟨List.pairwise_append.2 ⟨cells_ofList_sorted vs 0, hm.1.filter _, fun c hc d hd => ?_⟩, fun c hc => ?_⟩
  · have h1 := (cells_ofList_mem hc).2
    have h2 : vs.length ≤ d.1 := by simpa using (List.mem_filter.1 hd).2
    omega
  · rcases List.mem_append.1 hc with hc | hc
    · have := (cells_ofList_mem hc).2
      omega
    · exact hm.2 c (List.mem_filter.1 hc).1

/-- `State.reset` holds empty buffers, which have the canonical form. -/
theorem reset_buffers_wf :
    Memory.wf 65536 State.reset.inMem = true ∧ Memory.wf 8192 State.reset.body = true ∧
      Cells.wf 65536 State.reset.samples = true := ⟨rfl, rfl, rfl⟩

end Sys2Proof.Machine
end

