-- ==== Sys2Proof/Laws/Operands.lean ====
section
/-! SUPPORT. The small lemmas of the operand forms: lengths and elements of the byte sequences an operation reads, the
fields of a frame by its bytes, and the little-endian value of one to four bytes. -/

namespace Sys2Proof.Machine

@[simp] theorem inBytes_length (s : State) : s.inBytes.length = s.inLen.toNat := by simp [State.inBytes]

theorem inBytes_getElem? (s : State) (i : Nat) :
    s.inBytes[i]? = if i < s.inLen.toNat then some (s.inByte i) else none := by
  unfold State.inBytes
  rw [List.getElem?_map]
  split
  · rw [List.getElem?_range (by assumption)]; rfl
  · rw [List.getElem?_eq_none (by simpa using Nat.le_of_not_lt ‹_›)]; rfl

theorem byteAt_inBytes (s : State) {i : Nat} (h : i < s.inLen.toNat) : byteAt s.inBytes i = s.inByte i := by
  rw [byteAt, List.getD_eq_getElem?_getD, inBytes_getElem?, if_pos h]
  rfl

/-- The header of the frame in `IN`, by its two bytes. -/
theorem headerWord_inBytes (s : State) (h : 2 ≤ s.inLen.toNat) :
    headerWord s.inBytes = halfOfBytes (s.inByte 0) (s.inByte 1) := by
  rw [headerWord, byteAt_inBytes s (by omega), byteAt_inBytes s (by omega)]

/-- Field2 of the frame in `IN`, by its two bytes. -/
theorem field2_inBytes (s : State) (h : 4 ≤ s.inLen.toNat) :
    field2 s.inBytes = halfOfBytes (s.inByte 2) (s.inByte 3) := by
  rw [field2, byteAt_inBytes s (by omega), byteAt_inBytes s (by omega)]

@[simp] theorem frameTail_length (f : List Byte) : (frameTail f).length = f.length - 4 := by
  simp [frameTail, Config.hdrBytes, Config.field2Bytes]

theorem frameTail_inBytes_getElem? (s : State) (k : Nat) :
    (frameTail s.inBytes)[k]? = if k < s.inLen.toNat - 4 then some (s.inByte (4 + k)) else none := by
  simp only [frameTail, Config.hdrBytes, Config.field2Bytes, List.getElem?_drop, inBytes_getElem?]
  split <;> split <;> first | rfl | omega

@[simp] theorem bodyBytes_length (s : State) : s.bodyBytes.length = s.bodyLen.toNat := by simp [State.bodyBytes]

@[simp] theorem sampleWords_length (s : State) : s.sampleWords.length = s.sampleCount.toNat := by
  simp [State.sampleWords]

/-- The little-endian value of `n` bytes is below `256^n` (R8). -/
theorem leNat_lt (bs : List Byte) : leNat bs < 256 ^ bs.length := by
  induction bs with
  | nil => simp [leNat]
  | cons b bs ih =>
    have hb : b.toNat < 256 := b.isLt
    simp only [leNat, List.length_cons, Nat.pow_succ]
    omega

theorem chunkAt_length (w : Nat) (p : List Byte) {i : Nat} (h : i < p.length / w) : (chunkAt w p i).length = w := by
  have hw : 0 < w := Nat.pos_of_ne_zero fun h0 => by simp [h0] at h
  have h1 : (i + 1) * w ≤ p.length := (Nat.le_div_iff_mul_le hw).1 h
  simp only [chunkAt, List.length_take, List.length_drop]
  rw [Nat.add_mul] at h1
  omega

/-- Byte `j` of chunk `i` stands at offset `i·w + j` of the payload (R113). -/
theorem chunkAt_getElem? (w : Nat) (p : List Byte) (i j : Nat) :
    (chunkAt w p i)[j]? = if j < w then p[i * w + j]? else none := by
  simp [chunkAt, List.getElem?_take]

/-- The four supported widths and no others (R62). -/
theorem byteWidth?_some {bw w : Nat} (h : byteWidth? bw = some w) : bw = 8 * w ∧ 1 ≤ w ∧ w ≤ 4 := by
  unfold byteWidth? at h
  split at h <;> simp at h <;> omega

theorem byteWidth?_none {bw : Nat} : byteWidth? bw = none ↔ bw ≠ 8 ∧ bw ≠ 16 ∧ bw ≠ 24 ∧ bw ≠ 32 := by
  unfold byteWidth?
  split <;> simp_all

/-- The width operand reads the same in the decoder and in the unpacker. -/
theorem decodeWidth_ok_iff (b : Half) : (∃ i, decodeWidth b = .ok i) ↔ (byteWidth? b.toNat).isSome := by
  unfold decodeWidth byteWidth?
  split <;> simp_all

end Sys2Proof.Machine
end

