-- ==== Sys2Proof/Laws/State.lean ====
section
/-! SUPPORT. What each named update of the state does to each field, so that no proof unfolds a record update. -/

namespace Sys2Proof.Machine

@[simp] theorem withScript_inMem (s : State) (actions : List HostAction) : (s.withScript actions).inMem = s.inMem := rfl
@[simp] theorem withScript_inLen (s : State) (actions : List HostAction) : (s.withScript actions).inLen = s.inLen := rfl
@[simp] theorem withScript_inGen (s : State) (actions : List HostAction) : (s.withScript actions).inGen = s.inGen := rfl
@[simp] theorem withScript_dValid (s : State) (actions : List HostAction) : (s.withScript actions).dValid = s.dValid := rfl
@[simp] theorem withScript_dCause (s : State) (actions : List HostAction) : (s.withScript actions).dCause = s.dCause := rfl
@[simp] theorem withScript_msgType (s : State) (actions : List HostAction) : (s.withScript actions).msgType = s.msgType := rfl
@[simp] theorem withScript_itemCode (s : State) (actions : List HostAction) : (s.withScript actions).itemCode = s.itemCode := rfl
@[simp] theorem withScript_seqNum (s : State) (actions : List HostAction) : (s.withScript actions).seqNum = s.seqNum := rfl
@[simp] theorem withScript_body (s : State) (actions : List HostAction) : (s.withScript actions).body = s.body := rfl
@[simp] theorem withScript_bodyLen (s : State) (actions : List HostAction) : (s.withScript actions).bodyLen = s.bodyLen := rfl
@[simp] theorem withScript_xOk (s : State) (actions : List HostAction) : (s.withScript actions).xOk = s.xOk := rfl
@[simp] theorem withScript_xCause (s : State) (actions : List HostAction) : (s.withScript actions).xCause = s.xCause := rfl
@[simp] theorem withScript_samples (s : State) (actions : List HostAction) : (s.withScript actions).samples = s.samples := rfl
@[simp] theorem withScript_sampleCount (s : State) (actions : List HostAction) : (s.withScript actions).sampleCount = s.sampleCount := rfl
@[simp] theorem withScript_sampleWidthCfg (s : State) (actions : List HostAction) : (s.withScript actions).sampleWidthCfg = s.sampleWidthCfg := rfl
@[simp] theorem withScript_inFlight (s : State) (actions : List HostAction) : (s.withScript actions).inFlight = s.inFlight := rfl
@[simp] theorem withScript_done (s : State) (actions : List HostAction) : (s.withScript actions).done = s.done := rfl
@[simp] theorem withScript_sinkValid (s : State) (actions : List HostAction) : (s.withScript actions).sinkValid = s.sinkValid := rfl
@[simp] theorem withScript_sinkLog (s : State) (actions : List HostAction) : (s.withScript actions).sinkLog = s.sinkLog := rfl
@[simp] theorem withScript_hostRead (s : State) (actions : List HostAction) : (s.withScript actions).hostRead = s.hostRead := rfl
@[simp] theorem withScript_draws (s : State) (actions : List HostAction) : (s.withScript actions).draws = s.draws := rfl
@[simp] theorem withScript_script (s : State) (actions : List HostAction) : (s.withScript actions).script = actions := rfl

@[simp] theorem lowerPulses_inMem (s : State) : s.lowerPulses.inMem = s.inMem := rfl
@[simp] theorem lowerPulses_inLen (s : State) : s.lowerPulses.inLen = s.inLen := rfl
@[simp] theorem lowerPulses_inGen (s : State) : s.lowerPulses.inGen = s.inGen := rfl
@[simp] theorem lowerPulses_dValid (s : State) : s.lowerPulses.dValid = s.dValid := rfl
@[simp] theorem lowerPulses_dCause (s : State) : s.lowerPulses.dCause = s.dCause := rfl
@[simp] theorem lowerPulses_msgType (s : State) : s.lowerPulses.msgType = s.msgType := rfl
@[simp] theorem lowerPulses_itemCode (s : State) : s.lowerPulses.itemCode = s.itemCode := rfl
@[simp] theorem lowerPulses_seqNum (s : State) : s.lowerPulses.seqNum = s.seqNum := rfl
@[simp] theorem lowerPulses_body (s : State) : s.lowerPulses.body = s.body := rfl
@[simp] theorem lowerPulses_bodyLen (s : State) : s.lowerPulses.bodyLen = s.bodyLen := rfl
@[simp] theorem lowerPulses_xOk (s : State) : s.lowerPulses.xOk = s.xOk := rfl
@[simp] theorem lowerPulses_xCause (s : State) : s.lowerPulses.xCause = s.xCause := rfl
@[simp] theorem lowerPulses_samples (s : State) : s.lowerPulses.samples = s.samples := rfl
@[simp] theorem lowerPulses_sampleCount (s : State) : s.lowerPulses.sampleCount = s.sampleCount := rfl
@[simp] theorem lowerPulses_sampleWidthCfg (s : State) : s.lowerPulses.sampleWidthCfg = s.sampleWidthCfg := rfl
@[simp] theorem lowerPulses_inFlight (s : State) : s.lowerPulses.inFlight = s.inFlight := rfl
@[simp] theorem lowerPulses_done (s : State) : s.lowerPulses.done = false := rfl
@[simp] theorem lowerPulses_sinkValid (s : State) : s.lowerPulses.sinkValid = false := rfl
@[simp] theorem lowerPulses_sinkLog (s : State) : s.lowerPulses.sinkLog = s.sinkLog := rfl
@[simp] theorem lowerPulses_hostRead (s : State) : s.lowerPulses.hostRead = s.hostRead := rfl
@[simp] theorem lowerPulses_draws (s : State) : s.lowerPulses.draws = s.draws := rfl
@[simp] theorem lowerPulses_script (s : State) : s.lowerPulses.script = s.script := rfl

@[simp] theorem accept_inMem (s : State) (c : Command) : (s.accept c).inMem = s.inMem := rfl
@[simp] theorem accept_inLen (s : State) (c : Command) : (s.accept c).inLen = s.inLen := rfl
@[simp] theorem accept_inGen (s : State) (c : Command) : (s.accept c).inGen = s.inGen := rfl
@[simp] theorem accept_dValid (s : State) (c : Command) : (s.accept c).dValid = s.dValid := rfl
@[simp] theorem accept_dCause (s : State) (c : Command) : (s.accept c).dCause = s.dCause := rfl
@[simp] theorem accept_msgType (s : State) (c : Command) : (s.accept c).msgType = s.msgType := rfl
@[simp] theorem accept_itemCode (s : State) (c : Command) : (s.accept c).itemCode = s.itemCode := rfl
@[simp] theorem accept_seqNum (s : State) (c : Command) : (s.accept c).seqNum = s.seqNum := rfl
@[simp] theorem accept_body (s : State) (c : Command) : (s.accept c).body = s.body := rfl
@[simp] theorem accept_bodyLen (s : State) (c : Command) : (s.accept c).bodyLen = s.bodyLen := rfl
@[simp] theorem accept_xOk (s : State) (c : Command) : (s.accept c).xOk = s.xOk := rfl
@[simp] theorem accept_xCause (s : State) (c : Command) : (s.accept c).xCause = s.xCause := rfl
@[simp] theorem accept_samples (s : State) (c : Command) : (s.accept c).samples = s.samples := rfl
@[simp] theorem accept_sampleCount (s : State) (c : Command) : (s.accept c).sampleCount = s.sampleCount := rfl
@[simp] theorem accept_sampleWidthCfg (s : State) (c : Command) : (s.accept c).sampleWidthCfg = s.sampleWidthCfg := rfl
@[simp] theorem accept_inFlight (s : State) (c : Command) : (s.accept c).inFlight = some c := rfl
@[simp] theorem accept_done (s : State) (c : Command) : (s.accept c).done = false := rfl
@[simp] theorem accept_sinkValid (s : State) (c : Command) : (s.accept c).sinkValid = false := rfl
@[simp] theorem accept_sinkLog (s : State) (c : Command) : (s.accept c).sinkLog = s.sinkLog := rfl
@[simp] theorem accept_hostRead (s : State) (c : Command) : (s.accept c).hostRead = s.hostRead := rfl
@[simp] theorem accept_draws (s : State) (c : Command) : (s.accept c).draws = s.draws := rfl
@[simp] theorem accept_script (s : State) (c : Command) : (s.accept c).script = s.script := rfl

@[simp] theorem complete_inMem (s : State) : s.complete.inMem = s.inMem := rfl
@[simp] theorem complete_inLen (s : State) : s.complete.inLen = s.inLen := rfl
@[simp] theorem complete_inGen (s : State) : s.complete.inGen = s.inGen := rfl
@[simp] theorem complete_dValid (s : State) : s.complete.dValid = s.dValid := rfl
@[simp] theorem complete_dCause (s : State) : s.complete.dCause = s.dCause := rfl
@[simp] theorem complete_msgType (s : State) : s.complete.msgType = s.msgType := rfl
@[simp] theorem complete_itemCode (s : State) : s.complete.itemCode = s.itemCode := rfl
@[simp] theorem complete_seqNum (s : State) : s.complete.seqNum = s.seqNum := rfl
@[simp] theorem complete_body (s : State) : s.complete.body = s.body := rfl
@[simp] theorem complete_bodyLen (s : State) : s.complete.bodyLen = s.bodyLen := rfl
@[simp] theorem complete_xOk (s : State) : s.complete.xOk = s.xOk := rfl
@[simp] theorem complete_xCause (s : State) : s.complete.xCause = s.xCause := rfl
@[simp] theorem complete_samples (s : State) : s.complete.samples = s.samples := rfl
@[simp] theorem complete_sampleCount (s : State) : s.complete.sampleCount = s.sampleCount := rfl
@[simp] theorem complete_sampleWidthCfg (s : State) : s.complete.sampleWidthCfg = s.sampleWidthCfg := rfl
@[simp] theorem complete_inFlight (s : State) : s.complete.inFlight = none := rfl
@[simp] theorem complete_done (s : State) : s.complete.done = true := rfl
@[simp] theorem complete_sinkValid (s : State) : s.complete.sinkValid = s.sinkValid := rfl
@[simp] theorem complete_sinkLog (s : State) : s.complete.sinkLog = s.sinkLog := rfl
@[simp] theorem complete_hostRead (s : State) : s.complete.hostRead = s.hostRead := rfl
@[simp] theorem complete_draws (s : State) : s.complete.draws = s.draws := rfl
@[simp] theorem complete_script (s : State) : s.complete.script = s.script := rfl

@[simp] theorem writeDecoded_inMem (s : State) (type : BitVec 3) (code seq : Half) (bytes : List Byte) : (s.writeDecoded type code seq bytes).inMem = s.inMem := rfl
@[simp] theorem writeDecoded_inLen (s : State) (type : BitVec 3) (code seq : Half) (bytes : List Byte) : (s.writeDecoded type code seq bytes).inLen = s.inLen := rfl
@[simp] theorem writeDecoded_inGen (s : State) (type : BitVec 3) (code seq : Half) (bytes : List Byte) : (s.writeDecoded type code seq bytes).inGen = s.inGen := rfl
@[simp] theorem writeDecoded_dValid (s : State) (type : BitVec 3) (code seq : Half) (bytes : List Byte) : (s.writeDecoded type code seq bytes).dValid = true := rfl
@[simp] theorem writeDecoded_dCause (s : State) (type : BitVec 3) (code seq : Half) (bytes : List Byte) : (s.writeDecoded type code seq bytes).dCause = 0 := rfl
@[simp] theorem writeDecoded_msgType (s : State) (type : BitVec 3) (code seq : Half) (bytes : List Byte) : (s.writeDecoded type code seq bytes).msgType = type := rfl
@[simp] theorem writeDecoded_itemCode (s : State) (type : BitVec 3) (code seq : Half) (bytes : List Byte) : (s.writeDecoded type code seq bytes).itemCode = code := rfl
@[simp] theorem writeDecoded_seqNum (s : State) (type : BitVec 3) (code seq : Half) (bytes : List Byte) : (s.writeDecoded type code seq bytes).seqNum = seq := rfl
@[simp] theorem writeDecoded_body (s : State) (type : BitVec 3) (code seq : Half) (bytes : List Byte) : (s.writeDecoded type code seq bytes).body = Cells.ofList 0 bytes := rfl
@[simp] theorem writeDecoded_bodyLen (s : State) (type : BitVec 3) (code seq : Half) (bytes : List Byte) : (s.writeDecoded type code seq bytes).bodyLen = BitVec.ofNat 13 bytes.length := rfl
@[simp] theorem writeDecoded_xOk (s : State) (type : BitVec 3) (code seq : Half) (bytes : List Byte) : (s.writeDecoded type code seq bytes).xOk = s.xOk := rfl
@[simp] theorem writeDecoded_xCause (s : State) (type : BitVec 3) (code seq : Half) (bytes : List Byte) : (s.writeDecoded type code seq bytes).xCause = s.xCause := rfl
@[simp] theorem writeDecoded_samples (s : State) (type : BitVec 3) (code seq : Half) (bytes : List Byte) : (s.writeDecoded type code seq bytes).samples = s.samples := rfl
@[simp] theorem writeDecoded_sampleCount (s : State) (type : BitVec 3) (code seq : Half) (bytes : List Byte) : (s.writeDecoded type code seq bytes).sampleCount = s.sampleCount := rfl
@[simp] theorem writeDecoded_sampleWidthCfg (s : State) (type : BitVec 3) (code seq : Half) (bytes : List Byte) : (s.writeDecoded type code seq bytes).sampleWidthCfg = s.sampleWidthCfg := rfl
@[simp] theorem writeDecoded_inFlight (s : State) (type : BitVec 3) (code seq : Half) (bytes : List Byte) : (s.writeDecoded type code seq bytes).inFlight = s.inFlight := rfl
@[simp] theorem writeDecoded_done (s : State) (type : BitVec 3) (code seq : Half) (bytes : List Byte) : (s.writeDecoded type code seq bytes).done = s.done := rfl
@[simp] theorem writeDecoded_sinkValid (s : State) (type : BitVec 3) (code seq : Half) (bytes : List Byte) : (s.writeDecoded type code seq bytes).sinkValid = s.sinkValid := rfl
@[simp] theorem writeDecoded_sinkLog (s : State) (type : BitVec 3) (code seq : Half) (bytes : List Byte) : (s.writeDecoded type code seq bytes).sinkLog = s.sinkLog := rfl
@[simp] theorem writeDecoded_hostRead (s : State) (type : BitVec 3) (code seq : Half) (bytes : List Byte) : (s.writeDecoded type code seq bytes).hostRead = s.hostRead := rfl
@[simp] theorem writeDecoded_draws (s : State) (type : BitVec 3) (code seq : Half) (bytes : List Byte) : (s.writeDecoded type code seq bytes).draws = s.draws := rfl
@[simp] theorem writeDecoded_script (s : State) (type : BitVec 3) (code seq : Half) (bytes : List Byte) : (s.writeDecoded type code seq bytes).script = s.script := rfl

@[simp] theorem raiseInvalid_inMem (s : State) (cause : Cause) : (s.raiseInvalid cause).inMem = s.inMem := rfl
@[simp] theorem raiseInvalid_inLen (s : State) (cause : Cause) : (s.raiseInvalid cause).inLen = s.inLen := rfl
@[simp] theorem raiseInvalid_inGen (s : State) (cause : Cause) : (s.raiseInvalid cause).inGen = s.inGen := rfl
@[simp] theorem raiseInvalid_dValid (s : State) (cause : Cause) : (s.raiseInvalid cause).dValid = (decodeStatus cause).1 := rfl
@[simp] theorem raiseInvalid_dCause (s : State) (cause : Cause) : (s.raiseInvalid cause).dCause = causeCode cause := rfl
@[simp] theorem raiseInvalid_msgType (s : State) (cause : Cause) : (s.raiseInvalid cause).msgType = Config.freeMsgType s.draws := rfl
@[simp] theorem raiseInvalid_itemCode (s : State) (cause : Cause) : (s.raiseInvalid cause).itemCode = Config.freeItemCode s.draws := rfl
@[simp] theorem raiseInvalid_seqNum (s : State) (cause : Cause) : (s.raiseInvalid cause).seqNum = Config.freeSeqNum s.draws := rfl
@[simp] theorem raiseInvalid_body (s : State) (cause : Cause) : (s.raiseInvalid cause).body = [] := rfl
@[simp] theorem raiseInvalid_bodyLen (s : State) (cause : Cause) : (s.raiseInvalid cause).bodyLen = Config.freeBodyLen s.draws := rfl
@[simp] theorem raiseInvalid_xOk (s : State) (cause : Cause) : (s.raiseInvalid cause).xOk = s.xOk := rfl
@[simp] theorem raiseInvalid_xCause (s : State) (cause : Cause) : (s.raiseInvalid cause).xCause = s.xCause := rfl
@[simp] theorem raiseInvalid_samples (s : State) (cause : Cause) : (s.raiseInvalid cause).samples = s.samples := rfl
@[simp] theorem raiseInvalid_sampleCount (s : State) (cause : Cause) : (s.raiseInvalid cause).sampleCount = s.sampleCount := rfl
@[simp] theorem raiseInvalid_sampleWidthCfg (s : State) (cause : Cause) : (s.raiseInvalid cause).sampleWidthCfg = s.sampleWidthCfg := rfl
@[simp] theorem raiseInvalid_inFlight (s : State) (cause : Cause) : (s.raiseInvalid cause).inFlight = s.inFlight := rfl
@[simp] theorem raiseInvalid_done (s : State) (cause : Cause) : (s.raiseInvalid cause).done = s.done := rfl
@[simp] theorem raiseInvalid_sinkValid (s : State) (cause : Cause) : (s.raiseInvalid cause).sinkValid = s.sinkValid := rfl
@[simp] theorem raiseInvalid_sinkLog (s : State) (cause : Cause) : (s.raiseInvalid cause).sinkLog = s.sinkLog := rfl
@[simp] theorem raiseInvalid_hostRead (s : State) (cause : Cause) : (s.raiseInvalid cause).hostRead = s.hostRead := rfl
@[simp] theorem raiseInvalid_draws (s : State) (cause : Cause) : (s.raiseInvalid cause).draws = s.draws + 1 := rfl
@[simp] theorem raiseInvalid_script (s : State) (cause : Cause) : (s.raiseInvalid cause).script = s.script := rfl

@[simp] theorem writeSamples_inMem (s : State) (words : List Word) : (s.writeSamples words).inMem = s.inMem := rfl
@[simp] theorem writeSamples_inLen (s : State) (words : List Word) : (s.writeSamples words).inLen = s.inLen := rfl
@[simp] theorem writeSamples_inGen (s : State) (words : List Word) : (s.writeSamples words).inGen = s.inGen := rfl
@[simp] theorem writeSamples_dValid (s : State) (words : List Word) : (s.writeSamples words).dValid = s.dValid := rfl
@[simp] theorem writeSamples_dCause (s : State) (words : List Word) : (s.writeSamples words).dCause = s.dCause := rfl
@[simp] theorem writeSamples_msgType (s : State) (words : List Word) : (s.writeSamples words).msgType = s.msgType := rfl
@[simp] theorem writeSamples_itemCode (s : State) (words : List Word) : (s.writeSamples words).itemCode = s.itemCode := rfl
@[simp] theorem writeSamples_seqNum (s : State) (words : List Word) : (s.writeSamples words).seqNum = s.seqNum := rfl
@[simp] theorem writeSamples_body (s : State) (words : List Word) : (s.writeSamples words).body = s.body := rfl
@[simp] theorem writeSamples_bodyLen (s : State) (words : List Word) : (s.writeSamples words).bodyLen = s.bodyLen := rfl
@[simp] theorem writeSamples_xOk (s : State) (words : List Word) : (s.writeSamples words).xOk = true := rfl
@[simp] theorem writeSamples_xCause (s : State) (words : List Word) : (s.writeSamples words).xCause = 0 := rfl
@[simp] theorem writeSamples_samples (s : State) (words : List Word) : (s.writeSamples words).samples = Cells.ofList 0 words := rfl
@[simp] theorem writeSamples_sampleCount (s : State) (words : List Word) : (s.writeSamples words).sampleCount = BitVec.ofNat 16 words.length := rfl
@[simp] theorem writeSamples_sampleWidthCfg (s : State) (words : List Word) : (s.writeSamples words).sampleWidthCfg = s.sampleWidthCfg := rfl
@[simp] theorem writeSamples_inFlight (s : State) (words : List Word) : (s.writeSamples words).inFlight = s.inFlight := rfl
@[simp] theorem writeSamples_done (s : State) (words : List Word) : (s.writeSamples words).done = s.done := rfl
@[simp] theorem writeSamples_sinkValid (s : State) (words : List Word) : (s.writeSamples words).sinkValid = s.sinkValid := rfl
@[simp] theorem writeSamples_sinkLog (s : State) (words : List Word) : (s.writeSamples words).sinkLog = s.sinkLog := rfl
@[simp] theorem writeSamples_hostRead (s : State) (words : List Word) : (s.writeSamples words).hostRead = s.hostRead := rfl
@[simp] theorem writeSamples_draws (s : State) (words : List Word) : (s.writeSamples words).draws = s.draws := rfl
@[simp] theorem writeSamples_script (s : State) (words : List Word) : (s.writeSamples words).script = s.script := rfl

@[simp] theorem raiseFail_inMem (s : State) (cause : Cause) : (s.raiseFail cause).inMem = s.inMem := rfl
@[simp] theorem raiseFail_inLen (s : State) (cause : Cause) : (s.raiseFail cause).inLen = s.inLen := rfl
@[simp] theorem raiseFail_inGen (s : State) (cause : Cause) : (s.raiseFail cause).inGen = s.inGen := rfl
@[simp] theorem raiseFail_dValid (s : State) (cause : Cause) : (s.raiseFail cause).dValid = s.dValid := rfl
@[simp] theorem raiseFail_dCause (s : State) (cause : Cause) : (s.raiseFail cause).dCause = s.dCause := rfl
@[simp] theorem raiseFail_msgType (s : State) (cause : Cause) : (s.raiseFail cause).msgType = s.msgType := rfl
@[simp] theorem raiseFail_itemCode (s : State) (cause : Cause) : (s.raiseFail cause).itemCode = s.itemCode := rfl
@[simp] theorem raiseFail_seqNum (s : State) (cause : Cause) : (s.raiseFail cause).seqNum = s.seqNum := rfl
@[simp] theorem raiseFail_body (s : State) (cause : Cause) : (s.raiseFail cause).body = s.body := rfl
@[simp] theorem raiseFail_bodyLen (s : State) (cause : Cause) : (s.raiseFail cause).bodyLen = s.bodyLen := rfl
@[simp] theorem raiseFail_xOk (s : State) (cause : Cause) : (s.raiseFail cause).xOk = (extractStatus cause).1 := rfl
@[simp] theorem raiseFail_xCause (s : State) (cause : Cause) : (s.raiseFail cause).xCause = causeCode cause := rfl
@[simp] theorem raiseFail_samples (s : State) (cause : Cause) : (s.raiseFail cause).samples = [] := rfl
@[simp] theorem raiseFail_sampleCount (s : State) (cause : Cause) : (s.raiseFail cause).sampleCount = Config.freeSampleCount s.draws := rfl
@[simp] theorem raiseFail_sampleWidthCfg (s : State) (cause : Cause) : (s.raiseFail cause).sampleWidthCfg = s.sampleWidthCfg := rfl
@[simp] theorem raiseFail_inFlight (s : State) (cause : Cause) : (s.raiseFail cause).inFlight = s.inFlight := rfl
@[simp] theorem raiseFail_done (s : State) (cause : Cause) : (s.raiseFail cause).done = s.done := rfl
@[simp] theorem raiseFail_sinkValid (s : State) (cause : Cause) : (s.raiseFail cause).sinkValid = s.sinkValid := rfl
@[simp] theorem raiseFail_sinkLog (s : State) (cause : Cause) : (s.raiseFail cause).sinkLog = s.sinkLog := rfl
@[simp] theorem raiseFail_hostRead (s : State) (cause : Cause) : (s.raiseFail cause).hostRead = s.hostRead := rfl
@[simp] theorem raiseFail_draws (s : State) (cause : Cause) : (s.raiseFail cause).draws = s.draws + 1 := rfl
@[simp] theorem raiseFail_script (s : State) (cause : Cause) : (s.raiseFail cause).script = s.script := rfl

@[simp] theorem skipExtract_inMem (s : State) : s.skipExtract.inMem = s.inMem := rfl
@[simp] theorem skipExtract_inLen (s : State) : s.skipExtract.inLen = s.inLen := rfl
@[simp] theorem skipExtract_inGen (s : State) : s.skipExtract.inGen = s.inGen := rfl
@[simp] theorem skipExtract_dValid (s : State) : s.skipExtract.dValid = s.dValid := rfl
@[simp] theorem skipExtract_dCause (s : State) : s.skipExtract.dCause = s.dCause := rfl
@[simp] theorem skipExtract_msgType (s : State) : s.skipExtract.msgType = s.msgType := rfl
@[simp] theorem skipExtract_itemCode (s : State) : s.skipExtract.itemCode = s.itemCode := rfl
@[simp] theorem skipExtract_seqNum (s : State) : s.skipExtract.seqNum = s.seqNum := rfl
@[simp] theorem skipExtract_body (s : State) : s.skipExtract.body = s.body := rfl
@[simp] theorem skipExtract_bodyLen (s : State) : s.skipExtract.bodyLen = s.bodyLen := rfl
@[simp] theorem skipExtract_xOk (s : State) : s.skipExtract.xOk = false := rfl
@[simp] theorem skipExtract_xCause (s : State) : s.skipExtract.xCause = 0 := rfl
@[simp] theorem skipExtract_samples (s : State) : s.skipExtract.samples = [] := rfl
@[simp] theorem skipExtract_sampleCount (s : State) : s.skipExtract.sampleCount = Config.freeSampleCount s.draws := rfl
@[simp] theorem skipExtract_sampleWidthCfg (s : State) : s.skipExtract.sampleWidthCfg = s.sampleWidthCfg := rfl
@[simp] theorem skipExtract_inFlight (s : State) : s.skipExtract.inFlight = s.inFlight := rfl
@[simp] theorem skipExtract_done (s : State) : s.skipExtract.done = s.done := rfl
@[simp] theorem skipExtract_sinkValid (s : State) : s.skipExtract.sinkValid = s.sinkValid := rfl
@[simp] theorem skipExtract_sinkLog (s : State) : s.skipExtract.sinkLog = s.sinkLog := rfl
@[simp] theorem skipExtract_hostRead (s : State) : s.skipExtract.hostRead = s.hostRead := rfl
@[simp] theorem skipExtract_draws (s : State) : s.skipExtract.draws = s.draws + 1 := rfl
@[simp] theorem skipExtract_script (s : State) : s.skipExtract.script = s.script := rfl

@[simp] theorem emitSink_inMem (s : State) : s.emitSink.inMem = s.inMem := rfl
@[simp] theorem emitSink_inLen (s : State) : s.emitSink.inLen = s.inLen := rfl
@[simp] theorem emitSink_inGen (s : State) : s.emitSink.inGen = s.inGen := rfl
@[simp] theorem emitSink_dValid (s : State) : s.emitSink.dValid = s.dValid := rfl
@[simp] theorem emitSink_dCause (s : State) : s.emitSink.dCause = s.dCause := rfl
@[simp] theorem emitSink_msgType (s : State) : s.emitSink.msgType = s.msgType := rfl
@[simp] theorem emitSink_itemCode (s : State) : s.emitSink.itemCode = s.itemCode := rfl
@[simp] theorem emitSink_seqNum (s : State) : s.emitSink.seqNum = s.seqNum := rfl
@[simp] theorem emitSink_body (s : State) : s.emitSink.body = s.body := rfl
@[simp] theorem emitSink_bodyLen (s : State) : s.emitSink.bodyLen = s.bodyLen := rfl
@[simp] theorem emitSink_xOk (s : State) : s.emitSink.xOk = s.xOk := rfl
@[simp] theorem emitSink_xCause (s : State) : s.emitSink.xCause = s.xCause := rfl
@[simp] theorem emitSink_samples (s : State) : s.emitSink.samples = s.samples := rfl
@[simp] theorem emitSink_sampleCount (s : State) : s.emitSink.sampleCount = s.sampleCount := rfl
@[simp] theorem emitSink_sampleWidthCfg (s : State) : s.emitSink.sampleWidthCfg = s.sampleWidthCfg := rfl
@[simp] theorem emitSink_inFlight (s : State) : s.emitSink.inFlight = s.inFlight := rfl
@[simp] theorem emitSink_done (s : State) : s.emitSink.done = s.done := rfl
@[simp] theorem emitSink_sinkValid (s : State) : s.emitSink.sinkValid = true := rfl
@[simp] theorem emitSink_sinkLog (s : State) : s.emitSink.sinkLog = s.sinkLog ++ [{ sequenceNumber := s.seqNum, samples := s.sampleWords.map BitVec.toInt }] := rfl
@[simp] theorem emitSink_hostRead (s : State) : s.emitSink.hostRead = s.hostRead := rfl
@[simp] theorem emitSink_draws (s : State) : s.emitSink.draws = s.draws := rfl
@[simp] theorem emitSink_script (s : State) : s.emitSink.script = s.script := rfl

@[simp] theorem writeWidthCfg_inMem (s : State) (n : Half) : (s.writeWidthCfg n).inMem = s.inMem := rfl
@[simp] theorem writeWidthCfg_inLen (s : State) (n : Half) : (s.writeWidthCfg n).inLen = s.inLen := rfl
@[simp] theorem writeWidthCfg_inGen (s : State) (n : Half) : (s.writeWidthCfg n).inGen = s.inGen := rfl
@[simp] theorem writeWidthCfg_dValid (s : State) (n : Half) : (s.writeWidthCfg n).dValid = s.dValid := rfl
@[simp] theorem writeWidthCfg_dCause (s : State) (n : Half) : (s.writeWidthCfg n).dCause = s.dCause := rfl
@[simp] theorem writeWidthCfg_msgType (s : State) (n : Half) : (s.writeWidthCfg n).msgType = s.msgType := rfl
@[simp] theorem writeWidthCfg_itemCode (s : State) (n : Half) : (s.writeWidthCfg n).itemCode = s.itemCode := rfl
@[simp] theorem writeWidthCfg_seqNum (s : State) (n : Half) : (s.writeWidthCfg n).seqNum = s.seqNum := rfl
@[simp] theorem writeWidthCfg_body (s : State) (n : Half) : (s.writeWidthCfg n).body = s.body := rfl
@[simp] theorem writeWidthCfg_bodyLen (s : State) (n : Half) : (s.writeWidthCfg n).bodyLen = s.bodyLen := rfl
@[simp] theorem writeWidthCfg_xOk (s : State) (n : Half) : (s.writeWidthCfg n).xOk = s.xOk := rfl
@[simp] theorem writeWidthCfg_xCause (s : State) (n : Half) : (s.writeWidthCfg n).xCause = s.xCause := rfl
@[simp] theorem writeWidthCfg_samples (s : State) (n : Half) : (s.writeWidthCfg n).samples = s.samples := rfl
@[simp] theorem writeWidthCfg_sampleCount (s : State) (n : Half) : (s.writeWidthCfg n).sampleCount = s.sampleCount := rfl
@[simp] theorem writeWidthCfg_sampleWidthCfg (s : State) (n : Half) : (s.writeWidthCfg n).sampleWidthCfg = n := rfl
@[simp] theorem writeWidthCfg_inFlight (s : State) (n : Half) : (s.writeWidthCfg n).inFlight = s.inFlight := rfl
@[simp] theorem writeWidthCfg_done (s : State) (n : Half) : (s.writeWidthCfg n).done = s.done := rfl
@[simp] theorem writeWidthCfg_sinkValid (s : State) (n : Half) : (s.writeWidthCfg n).sinkValid = s.sinkValid := rfl
@[simp] theorem writeWidthCfg_sinkLog (s : State) (n : Half) : (s.writeWidthCfg n).sinkLog = s.sinkLog := rfl
@[simp] theorem writeWidthCfg_hostRead (s : State) (n : Half) : (s.writeWidthCfg n).hostRead = s.hostRead := rfl
@[simp] theorem writeWidthCfg_draws (s : State) (n : Half) : (s.writeWidthCfg n).draws = s.draws := rfl
@[simp] theorem writeWidthCfg_script (s : State) (n : Half) : (s.writeWidthCfg n).script = s.script := rfl

@[simp] theorem hostWriteByte_inMem (s : State) (a : Half) (b : Byte) : (s.hostWriteByte a b).inMem = Cells.write s.inMem a.toNat b := rfl
@[simp] theorem hostWriteByte_inLen (s : State) (a : Half) (b : Byte) : (s.hostWriteByte a b).inLen = s.inLen := rfl
@[simp] theorem hostWriteByte_inGen (s : State) (a : Half) (b : Byte) : (s.hostWriteByte a b).inGen = s.inGen := rfl
@[simp] theorem hostWriteByte_dValid (s : State) (a : Half) (b : Byte) : (s.hostWriteByte a b).dValid = s.dValid := rfl
@[simp] theorem hostWriteByte_dCause (s : State) (a : Half) (b : Byte) : (s.hostWriteByte a b).dCause = s.dCause := rfl
@[simp] theorem hostWriteByte_msgType (s : State) (a : Half) (b : Byte) : (s.hostWriteByte a b).msgType = s.msgType := rfl
@[simp] theorem hostWriteByte_itemCode (s : State) (a : Half) (b : Byte) : (s.hostWriteByte a b).itemCode = s.itemCode := rfl
@[simp] theorem hostWriteByte_seqNum (s : State) (a : Half) (b : Byte) : (s.hostWriteByte a b).seqNum = s.seqNum := rfl
@[simp] theorem hostWriteByte_body (s : State) (a : Half) (b : Byte) : (s.hostWriteByte a b).body = s.body := rfl
@[simp] theorem hostWriteByte_bodyLen (s : State) (a : Half) (b : Byte) : (s.hostWriteByte a b).bodyLen = s.bodyLen := rfl
@[simp] theorem hostWriteByte_xOk (s : State) (a : Half) (b : Byte) : (s.hostWriteByte a b).xOk = s.xOk := rfl
@[simp] theorem hostWriteByte_xCause (s : State) (a : Half) (b : Byte) : (s.hostWriteByte a b).xCause = s.xCause := rfl
@[simp] theorem hostWriteByte_samples (s : State) (a : Half) (b : Byte) : (s.hostWriteByte a b).samples = s.samples := rfl
@[simp] theorem hostWriteByte_sampleCount (s : State) (a : Half) (b : Byte) : (s.hostWriteByte a b).sampleCount = s.sampleCount := rfl
@[simp] theorem hostWriteByte_sampleWidthCfg (s : State) (a : Half) (b : Byte) : (s.hostWriteByte a b).sampleWidthCfg = s.sampleWidthCfg := rfl
@[simp] theorem hostWriteByte_inFlight (s : State) (a : Half) (b : Byte) : (s.hostWriteByte a b).inFlight = s.inFlight := rfl
@[simp] theorem hostWriteByte_done (s : State) (a : Half) (b : Byte) : (s.hostWriteByte a b).done = s.done := rfl
@[simp] theorem hostWriteByte_sinkValid (s : State) (a : Half) (b : Byte) : (s.hostWriteByte a b).sinkValid = s.sinkValid := rfl
@[simp] theorem hostWriteByte_sinkLog (s : State) (a : Half) (b : Byte) : (s.hostWriteByte a b).sinkLog = s.sinkLog := rfl
@[simp] theorem hostWriteByte_hostRead (s : State) (a : Half) (b : Byte) : (s.hostWriteByte a b).hostRead = s.hostRead := rfl
@[simp] theorem hostWriteByte_draws (s : State) (a : Half) (b : Byte) : (s.hostWriteByte a b).draws = s.draws := rfl
@[simp] theorem hostWriteByte_script (s : State) (a : Half) (b : Byte) : (s.hostWriteByte a b).script = s.script := rfl

@[simp] theorem hostWriteLen_inMem (s : State) (n : Half) : (s.hostWriteLen n).inMem = s.inMem := rfl
@[simp] theorem hostWriteLen_inLen (s : State) (n : Half) : (s.hostWriteLen n).inLen = n := rfl
@[simp] theorem hostWriteLen_inGen (s : State) (n : Half) : (s.hostWriteLen n).inGen = s.inGen := rfl
@[simp] theorem hostWriteLen_dValid (s : State) (n : Half) : (s.hostWriteLen n).dValid = s.dValid := rfl
@[simp] theorem hostWriteLen_dCause (s : State) (n : Half) : (s.hostWriteLen n).dCause = s.dCause := rfl
@[simp] theorem hostWriteLen_msgType (s : State) (n : Half) : (s.hostWriteLen n).msgType = s.msgType := rfl
@[simp] theorem hostWriteLen_itemCode (s : State) (n : Half) : (s.hostWriteLen n).itemCode = s.itemCode := rfl
@[simp] theorem hostWriteLen_seqNum (s : State) (n : Half) : (s.hostWriteLen n).seqNum = s.seqNum := rfl
@[simp] theorem hostWriteLen_body (s : State) (n : Half) : (s.hostWriteLen n).body = s.body := rfl
@[simp] theorem hostWriteLen_bodyLen (s : State) (n : Half) : (s.hostWriteLen n).bodyLen = s.bodyLen := rfl
@[simp] theorem hostWriteLen_xOk (s : State) (n : Half) : (s.hostWriteLen n).xOk = s.xOk := rfl
@[simp] theorem hostWriteLen_xCause (s : State) (n : Half) : (s.hostWriteLen n).xCause = s.xCause := rfl
@[simp] theorem hostWriteLen_samples (s : State) (n : Half) : (s.hostWriteLen n).samples = s.samples := rfl
@[simp] theorem hostWriteLen_sampleCount (s : State) (n : Half) : (s.hostWriteLen n).sampleCount = s.sampleCount := rfl
@[simp] theorem hostWriteLen_sampleWidthCfg (s : State) (n : Half) : (s.hostWriteLen n).sampleWidthCfg = s.sampleWidthCfg := rfl
@[simp] theorem hostWriteLen_inFlight (s : State) (n : Half) : (s.hostWriteLen n).inFlight = s.inFlight := rfl
@[simp] theorem hostWriteLen_done (s : State) (n : Half) : (s.hostWriteLen n).done = s.done := rfl
@[simp] theorem hostWriteLen_sinkValid (s : State) (n : Half) : (s.hostWriteLen n).sinkValid = s.sinkValid := rfl
@[simp] theorem hostWriteLen_sinkLog (s : State) (n : Half) : (s.hostWriteLen n).sinkLog = s.sinkLog := rfl
@[simp] theorem hostWriteLen_hostRead (s : State) (n : Half) : (s.hostWriteLen n).hostRead = s.hostRead := rfl
@[simp] theorem hostWriteLen_draws (s : State) (n : Half) : (s.hostWriteLen n).draws = s.draws := rfl
@[simp] theorem hostWriteLen_script (s : State) (n : Half) : (s.hostWriteLen n).script = s.script := rfl

@[simp] theorem hostLoad_inMem (s : State) (bytes : List Byte) : (s.hostLoad bytes).inMem = Cells.overwrite s.inMem bytes := rfl
@[simp] theorem hostLoad_inLen (s : State) (bytes : List Byte) : (s.hostLoad bytes).inLen = BitVec.ofNat 16 bytes.length := rfl
@[simp] theorem hostLoad_inGen (s : State) (bytes : List Byte) : (s.hostLoad bytes).inGen = s.inGen := rfl
@[simp] theorem hostLoad_dValid (s : State) (bytes : List Byte) : (s.hostLoad bytes).dValid = s.dValid := rfl
@[simp] theorem hostLoad_dCause (s : State) (bytes : List Byte) : (s.hostLoad bytes).dCause = s.dCause := rfl
@[simp] theorem hostLoad_msgType (s : State) (bytes : List Byte) : (s.hostLoad bytes).msgType = s.msgType := rfl
@[simp] theorem hostLoad_itemCode (s : State) (bytes : List Byte) : (s.hostLoad bytes).itemCode = s.itemCode := rfl
@[simp] theorem hostLoad_seqNum (s : State) (bytes : List Byte) : (s.hostLoad bytes).seqNum = s.seqNum := rfl
@[simp] theorem hostLoad_body (s : State) (bytes : List Byte) : (s.hostLoad bytes).body = s.body := rfl
@[simp] theorem hostLoad_bodyLen (s : State) (bytes : List Byte) : (s.hostLoad bytes).bodyLen = s.bodyLen := rfl
@[simp] theorem hostLoad_xOk (s : State) (bytes : List Byte) : (s.hostLoad bytes).xOk = s.xOk := rfl
@[simp] theorem hostLoad_xCause (s : State) (bytes : List Byte) : (s.hostLoad bytes).xCause = s.xCause := rfl
@[simp] theorem hostLoad_samples (s : State) (bytes : List Byte) : (s.hostLoad bytes).samples = s.samples := rfl
@[simp] theorem hostLoad_sampleCount (s : State) (bytes : List Byte) : (s.hostLoad bytes).sampleCount = s.sampleCount := rfl
@[simp] theorem hostLoad_sampleWidthCfg (s : State) (bytes : List Byte) : (s.hostLoad bytes).sampleWidthCfg = s.sampleWidthCfg := rfl
@[simp] theorem hostLoad_inFlight (s : State) (bytes : List Byte) : (s.hostLoad bytes).inFlight = s.inFlight := rfl
@[simp] theorem hostLoad_done (s : State) (bytes : List Byte) : (s.hostLoad bytes).done = s.done := rfl
@[simp] theorem hostLoad_sinkValid (s : State) (bytes : List Byte) : (s.hostLoad bytes).sinkValid = s.sinkValid := rfl
@[simp] theorem hostLoad_sinkLog (s : State) (bytes : List Byte) : (s.hostLoad bytes).sinkLog = s.sinkLog := rfl
@[simp] theorem hostLoad_hostRead (s : State) (bytes : List Byte) : (s.hostLoad bytes).hostRead = s.hostRead := rfl
@[simp] theorem hostLoad_draws (s : State) (bytes : List Byte) : (s.hostLoad bytes).draws = s.draws := rfl
@[simp] theorem hostLoad_script (s : State) (bytes : List Byte) : (s.hostLoad bytes).script = s.script := rfl

@[simp] theorem recordRead_inMem (s : State) (v : Word) : (s.recordRead v).inMem = s.inMem := rfl
@[simp] theorem recordRead_inLen (s : State) (v : Word) : (s.recordRead v).inLen = s.inLen := rfl
@[simp] theorem recordRead_inGen (s : State) (v : Word) : (s.recordRead v).inGen = s.inGen := rfl
@[simp] theorem recordRead_dValid (s : State) (v : Word) : (s.recordRead v).dValid = s.dValid := rfl
@[simp] theorem recordRead_dCause (s : State) (v : Word) : (s.recordRead v).dCause = s.dCause := rfl
@[simp] theorem recordRead_msgType (s : State) (v : Word) : (s.recordRead v).msgType = s.msgType := rfl
@[simp] theorem recordRead_itemCode (s : State) (v : Word) : (s.recordRead v).itemCode = s.itemCode := rfl
@[simp] theorem recordRead_seqNum (s : State) (v : Word) : (s.recordRead v).seqNum = s.seqNum := rfl
@[simp] theorem recordRead_body (s : State) (v : Word) : (s.recordRead v).body = s.body := rfl
@[simp] theorem recordRead_bodyLen (s : State) (v : Word) : (s.recordRead v).bodyLen = s.bodyLen := rfl
@[simp] theorem recordRead_xOk (s : State) (v : Word) : (s.recordRead v).xOk = s.xOk := rfl
@[simp] theorem recordRead_xCause (s : State) (v : Word) : (s.recordRead v).xCause = s.xCause := rfl
@[simp] theorem recordRead_samples (s : State) (v : Word) : (s.recordRead v).samples = s.samples := rfl
@[simp] theorem recordRead_sampleCount (s : State) (v : Word) : (s.recordRead v).sampleCount = s.sampleCount := rfl
@[simp] theorem recordRead_sampleWidthCfg (s : State) (v : Word) : (s.recordRead v).sampleWidthCfg = s.sampleWidthCfg := rfl
@[simp] theorem recordRead_inFlight (s : State) (v : Word) : (s.recordRead v).inFlight = s.inFlight := rfl
@[simp] theorem recordRead_done (s : State) (v : Word) : (s.recordRead v).done = s.done := rfl
@[simp] theorem recordRead_sinkValid (s : State) (v : Word) : (s.recordRead v).sinkValid = s.sinkValid := rfl
@[simp] theorem recordRead_sinkLog (s : State) (v : Word) : (s.recordRead v).sinkLog = s.sinkLog := rfl
@[simp] theorem recordRead_hostRead (s : State) (v : Word) : (s.recordRead v).hostRead = v := rfl
@[simp] theorem recordRead_draws (s : State) (v : Word) : (s.recordRead v).draws = s.draws + 1 := rfl
@[simp] theorem recordRead_script (s : State) (v : Word) : (s.recordRead v).script = s.script := rfl

@[simp] theorem resetBlock_inMem (s : State) : s.resetBlock.inMem = [] := rfl
@[simp] theorem resetBlock_inLen (s : State) : s.resetBlock.inLen = Config.freeInLen s.draws := rfl
@[simp] theorem resetBlock_inGen (s : State) : s.resetBlock.inGen = s.draws := rfl
@[simp] theorem resetBlock_dValid (s : State) : s.resetBlock.dValid = false := rfl
@[simp] theorem resetBlock_dCause (s : State) : s.resetBlock.dCause = 0 := rfl
@[simp] theorem resetBlock_msgType (s : State) : s.resetBlock.msgType = Config.freeMsgType s.draws := rfl
@[simp] theorem resetBlock_itemCode (s : State) : s.resetBlock.itemCode = Config.freeItemCode s.draws := rfl
@[simp] theorem resetBlock_seqNum (s : State) : s.resetBlock.seqNum = Config.freeSeqNum s.draws := rfl
@[simp] theorem resetBlock_body (s : State) : s.resetBlock.body = [] := rfl
@[simp] theorem resetBlock_bodyLen (s : State) : s.resetBlock.bodyLen = Config.freeBodyLen s.draws := rfl
@[simp] theorem resetBlock_xOk (s : State) : s.resetBlock.xOk = false := rfl
@[simp] theorem resetBlock_xCause (s : State) : s.resetBlock.xCause = 0 := rfl
@[simp] theorem resetBlock_samples (s : State) : s.resetBlock.samples = [] := rfl
@[simp] theorem resetBlock_sampleCount (s : State) : s.resetBlock.sampleCount = Config.freeSampleCount s.draws := rfl
@[simp] theorem resetBlock_sampleWidthCfg (s : State) : s.resetBlock.sampleWidthCfg = 0 := rfl
@[simp] theorem resetBlock_inFlight (s : State) : s.resetBlock.inFlight = none := rfl
@[simp] theorem resetBlock_done (s : State) : s.resetBlock.done = false := rfl
@[simp] theorem resetBlock_sinkValid (s : State) : s.resetBlock.sinkValid = false := rfl
@[simp] theorem resetBlock_sinkLog (s : State) : s.resetBlock.sinkLog = s.sinkLog := rfl
@[simp] theorem resetBlock_hostRead (s : State) : s.resetBlock.hostRead = s.hostRead := rfl
@[simp] theorem resetBlock_draws (s : State) : s.resetBlock.draws = s.draws + 1 := rfl
@[simp] theorem resetBlock_script (s : State) : s.resetBlock.script = s.script := rfl

end Sys2Proof.Machine
end

