-- ==== Sys2Proof/Laws/Ops.lean ====
section
/-! SUPPORT. For each shared operation, once, everything it can do: the abstract decode and extraction, their register
views, and the two steps of `STREAM`. -/

namespace Sys2Proof.Machine

/-! Reads of the buffers after each update that writes one. -/

theorem writeDecoded_bodyByte? (s : State) (t : BitVec 3) (c q : Half) (bytes : List Byte) (k : Nat) :
    (s.writeDecoded t c q bytes).bodyByte? k = bytes[k]? := by
  simp [State.bodyByte?]

theorem writeSamples_sample? (s : State) (ws : List Word) (i : Nat) : (s.writeSamples ws).sample? i = ws[i]? := by
  simp [State.sample?]

theorem hostWriteByte_inByte (s : State) (a : Half) (b : Byte) (k : Nat) :
    (s.hostWriteByte a b).inByte k = if a.toNat = k then b else s.inByte k := by
  simp only [State.inByte, hostWriteByte_inMem, hostWriteByte_inGen, cells_read_write]
  split <;> rfl

theorem hostLoad_inByte (s : State) (bytes : List Byte) (k : Nat) :
    (s.hostLoad bytes).inByte k = bytes.getD k (s.inByte k) := by
  simp only [State.inByte, hostLoad_inMem, hostLoad_inGen, cells_read_overwrite, List.getD_eq_getElem?_getD]
  split
  · rw [List.getElem?_eq_getElem (by assumption)]; rfl
  · rw [List.getElem?_eq_none (by omega)]; rfl

/-- `LOAD` of at most 65535 bytes makes them the input. -/
theorem hostLoad_inBytes (s : State) (bytes : List Byte) (h : bytes.length ≤ 65535) :
    (s.hostLoad bytes).inBytes = bytes := by
  have hl : (s.hostLoad bytes).inLen.toNat = bytes.length := by
    rw [hostLoad_inLen, BitVec.toNat_ofNat]
    omega
  apply List.ext_getElem?
  intro i
  rw [inBytes_getElem?, hl, hostLoad_inByte]
  split
  · rw [List.getD_eq_getElem?_getD, List.getElem?_eq_getElem (by assumption)]; rfl
  · rw [List.getElem?_eq_none (by omega)]

/-- The bytes of `BODY` after a valid decode are the body. -/
theorem writeDecoded_bodyBytes (s : State) (t : BitVec 3) (c q : Half) (bytes : List Byte) (h : bytes.length < 8192) :
    (s.writeDecoded t c q bytes).bodyBytes = bytes := by
  apply List.ext_getElem?
  intro i
  unfold State.bodyBytes
  rw [List.getElem?_map, writeDecoded_bodyLen, BitVec.toNat_ofNat, Nat.mod_eq_of_lt h]
  by_cases hi : i < bytes.length
  · rw [List.getElem?_range hi, Option.map_some, writeDecoded_bodyByte?, List.getElem?_eq_getElem hi]; rfl
  · have hi' := Nat.le_of_not_lt hi
    rw [List.getElem?_eq_none (by simpa using hi'), List.getElem?_eq_none hi']; rfl

/-- The words of `SAMPLES` after a successful extraction are the samples. -/
theorem writeSamples_sampleWords (s : State) (ws : List Word) (h : ws.length < 65536) :
    (s.writeSamples ws).sampleWords = ws := by
  apply List.ext_getElem?
  intro i
  unfold State.sampleWords
  rw [List.getElem?_map, writeSamples_sampleCount, BitVec.toNat_ofNat, Nat.mod_eq_of_lt h]
  by_cases hi : i < ws.length
  · rw [List.getElem?_range hi, Option.map_some, writeSamples_sample?, List.getElem?_eq_getElem hi]; rfl
  · have hi' := Nat.le_of_not_lt hi
    rw [List.getElem?_eq_none (by simpa using hi'), List.getElem?_eq_none hi']; rfl

/-! The decode. -/

/-- Everything a message frame can decode to, with the check each case passed or failed (R83 to R87, R168). -/
theorem messageFrame_cases (codes : Config.CodeTable) (t : BitVec 3) (n : Nat) (f : List Byte) :
    (messageFrame codes t n f = .invalid .framingError ∧ (n ≠ f.length ∨ f.length < 4)) ∨
      (messageFrame codes t n f = .invalid .unknownItemCode ∧ n = f.length ∧ 4 ≤ f.length ∧ familyBit t = false ∧
        field2 f ∉ codes.known) ∨
      (messageFrame codes t n f = .valid t (field2 f) 0 (frameTail f) ∧ n = f.length ∧ 4 ≤ f.length ∧
        familyBit t = false ∧ field2 f ∈ codes.known) ∨
      (messageFrame codes t n f = .valid t codes.noneCode (field2 f) (frameTail f) ∧ n = f.length ∧ 4 ≤ f.length ∧
        familyBit t = true) := by
  unfold messageFrame dataItemBody controlItemBody
  by_cases hn : n = f.length
  · by_cases h4 : f.length < 4
    · exact .inl ⟨by simp [h4], .inr h4⟩
    · by_cases hf : familyBit t = true
      · exact .inr (.inr (.inr ⟨by simp [hn, h4, hf], hn, by omega, hf⟩))
      · have hf' : familyBit t = false := by simpa using hf
        by_cases hk : field2 f ∈ codes.known
        · exact .inr (.inr (.inl ⟨by simp [hn, h4, hf', hk], hn, by omega, hf', hk⟩))
        · exact .inr (.inl ⟨by simp [hn, h4, hf', hk], hn, by omega, hf', hk⟩)
  · exact .inl ⟨by simp [hn], .inl hn⟩

/-- A frame with a header decodes as the message its header names (R82). -/
theorem decodeFrame_of_header (codes : Config.CodeTable) (f : List Byte) (h : 2 ≤ f.length) :
    decodeFrame codes f = messageFrame codes (headerType (headerWord f)) (headerLength (headerWord f)) f := by
  rw [decodeFrame, if_neg (Nat.not_lt.2 h)]

/-- A frame without a header (R81). -/
theorem decodeFrame_short (codes : Config.CodeTable) (f : List Byte) (h : f.length < 2) :
    decodeFrame codes f = .invalid .framingError := by
  rw [decodeFrame, if_pos h]

/-- A valid decode passed every check, and these are its results (R83 to R87). -/
theorem decodeFrame_valid {codes : Config.CodeTable} {f : List Byte} {t : BitVec 3} {c q : Half} {b : List Byte}
    (h : decodeFrame codes f = .valid t c q b) :
    4 ≤ f.length ∧ headerLength (headerWord f) = f.length ∧ t = headerType (headerWord f) ∧ b = frameTail f ∧
      ((familyBit t = false ∧ c = field2 f ∧ c ∈ codes.known ∧ q = 0) ∨
        (familyBit t = true ∧ c = codes.noneCode ∧ q = field2 f)) := by
  by_cases h2 : f.length < 2
  · rw [decodeFrame_short _ _ h2] at h; cases h
  · rw [decodeFrame_of_header _ _ (by omega)] at h
    rcases messageFrame_cases codes (headerType (headerWord f)) (headerLength (headerWord f)) f with
      ⟨e, _⟩ | ⟨e, _⟩ | ⟨e, hl, h4, hb, hk⟩ | ⟨e, hl, h4, hb⟩ <;> rw [e] at h <;> cases h
    · exact ⟨h4, hl, rfl, rfl, .inl ⟨hb, rfl, hk, rfl⟩⟩
    · exact ⟨h4, hl, rfl, rfl, .inr ⟨hb, rfl, rfl⟩⟩

/-- An invalid decode has one of two causes (R80, R162, R163). -/
theorem decodeFrame_invalid {codes : Config.CodeTable} {f : List Byte} {k : Cause}
    (h : decodeFrame codes f = .invalid k) : k = .framingError ∨ k = .unknownItemCode := by
  by_cases h2 : f.length < 2
  · rw [decodeFrame_short _ _ h2] at h; cases h; exact .inl rfl
  · rw [decodeFrame_of_header _ _ (by omega)] at h
    rcases messageFrame_cases codes (headerType (headerWord f)) (headerLength (headerWord f)) f with
      ⟨e, _⟩ | ⟨e, _⟩ | ⟨e, _⟩ | ⟨e, _⟩ <;> rw [e] at h <;> cases h
    · exact .inl rfl
    · exact .inr rfl

/-- What a decode leaves alone, whatever it answers (R80). -/
theorem putDecode_frame (s : State) (r : DecodeResult) :
    (s.putDecode r).inMem = s.inMem ∧ (s.putDecode r).inLen = s.inLen ∧ (s.putDecode r).inGen = s.inGen ∧
      (s.putDecode r).xOk = s.xOk ∧ (s.putDecode r).xCause = s.xCause ∧ (s.putDecode r).samples = s.samples ∧
      (s.putDecode r).sampleCount = s.sampleCount ∧ (s.putDecode r).sampleWidthCfg = s.sampleWidthCfg ∧
      (s.putDecode r).inFlight = s.inFlight ∧ (s.putDecode r).done = s.done ∧
      (s.putDecode r).sinkValid = s.sinkValid ∧ (s.putDecode r).sinkLog = s.sinkLog ∧
      (s.putDecode r).hostRead = s.hostRead ∧ (s.putDecode r).script = s.script := by
  cases r <;> simp [State.putDecode]

/-! The extraction. -/

@[simp] theorem unpack_length (w : Nat) (p : List Byte) : (unpack w p).length = p.length / w := by simp [unpack]

theorem unpack_getElem? (w : Nat) (p : List Byte) (i : Nat) :
    (unpack w p)[i]? = if i < p.length / w then some (sampleAt w p i) else none := by
  unfold unpack
  rw [List.getElem?_map]
  split
  · rw [List.getElem?_range (by assumption)]; rfl
  · rw [List.getElem?_eq_none (by simpa using Nat.le_of_not_lt ‹_›)]; rfl

/-- Everything an extraction can answer (R111, R122). -/
theorem extractPayload_cases (bw : Nat) (p : List Byte) :
    (∃ w, byteWidth? bw = some w ∧ extractPayload bw p = .ok (unpack w p)) ∨
      (byteWidth? bw = none ∧ extractPayload bw p = .fail .unsupportedSampleWidth) := by
  unfold extractPayload
  cases h : byteWidth? bw
  · exact .inr ⟨rfl, rfl⟩
  · exact .inl ⟨_, rfl, rfl⟩

/-- What an extraction leaves alone, whatever it answers (R110). -/
theorem putExtract_frame (s : State) (r : ExtractResult) :
    (s.putExtract r).inMem = s.inMem ∧ (s.putExtract r).inLen = s.inLen ∧ (s.putExtract r).inGen = s.inGen ∧
      (s.putExtract r).dValid = s.dValid ∧ (s.putExtract r).dCause = s.dCause ∧ (s.putExtract r).msgType = s.msgType ∧
      (s.putExtract r).itemCode = s.itemCode ∧ (s.putExtract r).seqNum = s.seqNum ∧ (s.putExtract r).body = s.body ∧
      (s.putExtract r).bodyLen = s.bodyLen ∧ (s.putExtract r).sampleWidthCfg = s.sampleWidthCfg ∧
      (s.putExtract r).inFlight = s.inFlight ∧ (s.putExtract r).done = s.done ∧
      (s.putExtract r).sinkValid = s.sinkValid ∧ (s.putExtract r).sinkLog = s.sinkLog ∧
      (s.putExtract r).hostRead = s.hostRead ∧ (s.putExtract r).script = s.script := by
  cases r <;> simp [State.putExtract]

/-! `STREAM`. -/

/-- Everything the steps of `STREAM` after the decode can do (R132). -/
theorem streamSecond_cases (s : State) :
    (s.dValid = true ∧ familyBit s.msgType = true ∧
        ∃ w, byteWidth? s.sampleWidthCfg.toNat = some w ∧
          s.streamSecond = (s.writeSamples (unpack w s.bodyBytes)).emitSink) ∨
      (s.dValid = true ∧ familyBit s.msgType = true ∧ byteWidth? s.sampleWidthCfg.toNat = none ∧
        s.streamSecond = s.raiseFail .unsupportedSampleWidth) ∨
      ((s.dValid = false ∨ familyBit s.msgType = false) ∧ s.streamSecond = s.skipExtract) := by
  unfold State.streamSecond
  by_cases hv : s.dValid = true
  · by_cases hf : familyBit s.msgType = true
    · simp only [hv, hf, Bool.and_true, cond_true, State.extractBody, true_and]
      rcases extractPayload_cases s.sampleWidthCfg.toNat s.bodyBytes with ⟨w, hw, he⟩ | ⟨hw, he⟩
      · exact .inl ⟨w, hw, by simp [he, State.putExtract]⟩
      · refine .inr (.inl ⟨hw, ?_⟩)
        rw [he]
        rfl
    · rw [Bool.not_eq_true] at hf
      exact .inr (.inr ⟨.inr hf, by rw [hf, Bool.and_false, cond_false]⟩)
  · rw [Bool.not_eq_true] at hv
    exact .inr (.inr ⟨.inl hv, by rw [hv, Bool.false_and, cond_false]⟩)

end Sys2Proof.Machine
end

