-- ==== Sys2Proof/Laws/PerInstr.lean ====
section
/-! SUPPORT. Facts about every instruction as syntax, one lemma for each constructor. -/

namespace Sys2Proof.Laws

/-- The encoding of an instruction has the size of its encoding space: two bytes of header or of width operand, three of a
command pair. -/
def EncodedSize.Statement (i : Instr) : Prop :=
  (encode i).length = match i.level with
    | .command => 3
    | .header => 2
    | .width => 2

theorem EncodedSize.setControlItem (n : Nat) : EncodedSize.Statement (.setControlItem n) := rfl
theorem EncodedSize.currentControlItem (n : Nat) : EncodedSize.Statement (.currentControlItem n) := rfl
theorem EncodedSize.controlItemRange (n : Nat) : EncodedSize.Statement (.controlItemRange n) := rfl
theorem EncodedSize.ack (n : Nat) : EncodedSize.Statement (.ack n) := rfl
theorem EncodedSize.dataItem0 (n : Nat) : EncodedSize.Statement (.dataItem0 n) := rfl
theorem EncodedSize.dataItem1 (n : Nat) : EncodedSize.Statement (.dataItem1 n) := rfl
theorem EncodedSize.dataItem2 (n : Nat) : EncodedSize.Statement (.dataItem2 n) := rfl
theorem EncodedSize.dataItem3 (n : Nat) : EncodedSize.Statement (.dataItem3 n) := rfl
theorem EncodedSize.extract8 : EncodedSize.Statement .extract8 := rfl
theorem EncodedSize.extract16 : EncodedSize.Statement .extract16 := rfl
theorem EncodedSize.extract24 : EncodedSize.Statement .extract24 := rfl
theorem EncodedSize.extract32 : EncodedSize.Statement .extract32 := rfl
theorem EncodedSize.decode : EncodedSize.Statement .decode := rfl
theorem EncodedSize.extract (n : Nat) : EncodedSize.Statement (.extract n) := rfl
theorem EncodedSize.stream : EncodedSize.Statement .stream := rfl
theorem EncodedSize.cfgw (n : Nat) : EncodedSize.Statement (.cfgw n) := rfl

end Sys2Proof.Laws
end

