-- ==== Sys2Proof/Laws/Step.lean ====
section
/-! SUPPORT. Everything one step can do: the inversion of a step by the host's action, and of an operation by the command
in progress. -/

namespace Sys2Proof.Machine

@[simp] theorem withScript_busy (s : State) (l : List HostAction) : (s.withScript l).busy = s.busy := rfl

@[simp] theorem lowerPulses_busy (s : State) : s.lowerPulses.busy = s.busy := rfl

@[simp] theorem accept_busy (s : State) (c : Command) : (s.accept c).busy = true := rfl

@[simp] theorem complete_busy (s : State) : s.complete.busy = false := rfl

/-- Every message type decodes `IN` under its own number and its declared length (R88 to R95). -/
theorem exec_messageInstr (t : BitVec 3) (n : Nat) (s : State) :
    exec (messageInstr t n) s = .next (s.decodeMessage t n) := by
  rcases type_cases t with rfl | rfl | rfl | rfl | rfl | rfl | rfl | rfl <;> rfl

/-- A step is the host's next action; a host with none left waits. -/
theorem step_eq (s : State) : step s = hostAct (s.withScript s.script.tail) (s.script.headD .wait) := by
  unfold step hostStep
  cases h : s.script with
  | nil =>
    have : s.withScript [] = s := by rw [← h]; rfl
    rw [List.tail_nil, this]; rfl
  | cons a rest => rfl

/-- An operation in progress that ends in a next state ended in the completion of its instruction's next state. -/
theorem runInFlight_next {s t : State} (h : runInFlight s = .next t) :
    (s.inFlight = none ∧ t = s) ∨
      ∃ c u, s.inFlight = some c ∧ exec (decodeCommand c.cmd c.bitWidth) s = .next u ∧ t = u.complete := by
  unfold runInFlight at h
  split at h
  · exact .inl ⟨by assumption, by injection h with h; exact h.symm⟩
  · rename_i c hc
    split at h <;> cases h
    exact .inr ⟨c, _, hc, by assumption, rfl⟩

/-- Everything an action that ends in a next state did. -/
theorem hostAct_next {s t : State} {a : HostAction} (h : hostAct s a = .next t) :
    (∃ c, a = .issue c ∧ s.busy = false ∧ runInFlight (s.accept c) = .next t) ∨
      (∃ c, a = .present c ∧ s.busy = false ∧ t = s.accept c) ∨
      (a = .wait ∧ runInFlight s.lowerPulses = .next t) ∨
      (∃ d b, a = .writeByte d b ∧ s.busy = false ∧ t = s.lowerPulses.hostWriteByte d b) ∨
      (∃ n, a = .writeLen n ∧ s.busy = false ∧ t = s.lowerPulses.hostWriteLen n) ∨
      (∃ bs, a = .load bs ∧ s.busy = false ∧ bs.length ≤ 65535 ∧ t = s.lowerPulses.hostLoad bs) ∨
      (∃ p, a = .read p ∧ t = s.hostReadPort p) ∨
      (a = .reset ∧ t = s.resetBlock) := by
  cases a with
  | issue c =>
    cases hb : s.busy <;> simp only [hostAct, hb, cond_true, cond_false] at h
    · exact .inl ⟨c, rfl, rfl, h⟩
    · cases h
  | present c =>
    cases hb : s.busy <;> simp only [hostAct, hb, cond_true, cond_false] at h <;> cases h
    exact .inr (.inl ⟨c, rfl, rfl, rfl⟩)
  | wait => exact .inr (.inr (.inl ⟨rfl, h⟩))
  | writeByte d b =>
    cases hb : s.busy <;> simp only [hostAct, hb, cond_true, cond_false] at h <;> cases h
    exact .inr (.inr (.inr (.inl ⟨d, b, rfl, rfl, rfl⟩)))
  | writeLen n =>
    cases hb : s.busy <;> simp only [hostAct, hb, cond_true, cond_false] at h <;> cases h
    exact .inr (.inr (.inr (.inr (.inl ⟨n, rfl, rfl, rfl⟩))))
  | load bs =>
    cases hb : s.busy <;> simp only [hostAct, hb, cond_true, cond_false] at h
    · split at h <;> cases h
      rename_i hl
      exact .inr (.inr (.inr (.inr (.inr (.inl ⟨bs, rfl, rfl, Nat.not_lt.1 hl, rfl⟩)))))
    · cases h
  | read p =>
    cases h
    exact .inr (.inr (.inr (.inr (.inr (.inr (.inl ⟨p, rfl, rfl⟩))))))
  | reset =>
    cases h
    exact .inr (.inr (.inr (.inr (.inr (.inr (.inr ⟨rfl, rfl⟩))))))

end Sys2Proof.Machine
end

