-- ==== Sys2Proof/Tests/Slice0.lean ====
section
/-! SUPPORT. Tests: ill-formed terms refused, one encoding written out for every instruction, vectors of
95_test_vectors.md (expected values are the spec's), and for every obligation with hypotheses a witness that meets them. -/

namespace Sys2Proof.Tests

open Sys2Proof Sys2Proof.Machine

/-! Well-formedness. -/

theorem test_wellFormed_length_limit :
    Instr.wellFormed (.setControlItem 8191) = true ∧ Instr.wellFormed (.setControlItem 8192) = false := by decide
theorem test_wellFormed_currentControlItem : Instr.wellFormed (.currentControlItem 8192) = false := by decide
theorem test_wellFormed_controlItemRange : Instr.wellFormed (.controlItemRange 8192) = false := by decide
theorem test_wellFormed_ack : Instr.wellFormed (.ack 8192) = false := by decide
theorem test_wellFormed_dataItem0 : Instr.wellFormed (.dataItem0 8192) = false := by decide
theorem test_wellFormed_dataItem1 : Instr.wellFormed (.dataItem1 8192) = false := by decide
theorem test_wellFormed_dataItem2 : Instr.wellFormed (.dataItem2 8192) = false := by decide
theorem test_wellFormed_dataItem3 : Instr.wellFormed (.dataItem3 8192) = false := by decide
theorem test_wellFormed_extract :
    Instr.wellFormed (.extract 65535) = true ∧ Instr.wellFormed (.extract 65536) = false := by decide
theorem test_wellFormed_cfgw :
    Instr.wellFormed (.cfgw 65535) = true ∧ Instr.wellFormed (.cfgw 65536) = false := by decide

/-! Encodings written out: headers from 95_test_vectors.md section 2.1, operands and commands from R62 and R63. -/

theorem test_decode_setControlItem : decode .header [0x08, 0x00, 0x18] = .ok (.setControlItem 8, [0x18]) := by rfl
theorem test_decode_currentControlItem : decode .header [0x05, 0x20] = .ok (.currentControlItem 5, []) := by rfl
theorem test_decode_controlItemRange : decode .header [0x04, 0x40] = .ok (.controlItemRange 4, []) := by rfl
theorem test_decode_ack : decode .header [0xFF, 0x7F] = .ok (.ack 8191, []) := by rfl
theorem test_decode_dataItem0 : decode .header [0x34, 0x92] = .ok (.dataItem0 4660, []) := by rfl
theorem test_decode_dataItem1 : decode .header [0x0A, 0xA0] = .ok (.dataItem1 10, []) := by rfl
theorem test_decode_dataItem2 : decode .header [0x0D, 0xC0] = .ok (.dataItem2 13, []) := by rfl
theorem test_decode_dataItem3 : decode .header [0x00, 0xE0] = .ok (.dataItem3 0, []) := by rfl
theorem test_decode_extract8 : decode .width [0x08, 0x00] = .ok (.extract8, []) := by rfl
theorem test_decode_extract16 : decode .width [0x10, 0x00] = .ok (.extract16, []) := by rfl
theorem test_decode_extract24 : decode .width [0x18, 0x00] = .ok (.extract24, []) := by rfl
theorem test_decode_extract32 : decode .width [0x20, 0x00] = .ok (.extract32, []) := by rfl
theorem test_decode_decode : decode .command [0b00, 0x00, 0x00] = .ok (.decode, []) := by rfl
theorem test_decode_extract : decode .command [0b01, 0x28, 0x00] = .ok (.extract 40, []) := by rfl
theorem test_decode_stream : decode .command [0b10, 0x00, 0x00] = .ok (.stream, []) := by rfl
theorem test_decode_cfgw : decode .command [0b11, 0xFF, 0xFF] = .ok (.cfgw 65535, []) := by rfl
theorem test_decode_short : decode .header [0x08] = .error .shortInput := by rfl
theorem test_decode_unsupported_width : decode .width [0x28, 0x00] = .error (.unsupportedSampleWidth 40) := by rfl
theorem test_tableWord :
    decodeTableWord 2 0b11 = some (.cfgw 0) ∧ decodeTableWord 16 0x0018 = some .extract24 ∧
    decodeTableWord 16 0x800A = some (.dataItem0 10) := ⟨rfl, rfl, rfl⟩

/-! Frames decoded over the table `KNOWN_CODES_GK` of 95_test_vectors.md (sections 2.2 to 2.4). -/

/-- `KNOWN_CODES_GK`, an instance the vectors are written over; no definition of the model uses it. -/
def gk : Config.CodeTable := { known := [0x0018, 0x0020, 0x00B8, 0x0044, 0x008A, 0x0000], noneCode := 0x0000 }

theorem test_frame_setControlItem :
    decodeFrame gk [0x08, 0x00, 0x18, 0x00, 0x80, 0x02, 0x00, 0x00] = .valid 0 0x0018 0 [0x80, 0x02, 0x00, 0x00] := by
  decide
theorem test_frame_currentControlItem :
    decodeFrame gk [0x05, 0x20, 0x20, 0x00, 0x00] = .valid 1 0x0020 0 [0x00] := by decide
theorem test_frame_controlItemRange : decodeFrame gk [0x04, 0x40, 0xB8, 0x00] = .valid 2 0x00B8 0 [] := by decide
theorem test_frame_ack :
    decodeFrame gk [0x06, 0x60, 0x00, 0x00, 0xAA, 0xBB] = .valid 3 0x0000 0 [0xAA, 0xBB] := by decide
theorem test_frame_dataItem0 :
    decodeFrame gk [0x06, 0x80, 0x19, 0x00, 0xAA, 0xBB] = .valid 4 0x0000 25 [0xAA, 0xBB] := by decide
theorem test_frame_dataItem1 :
    decodeFrame gk [0x08, 0xA0, 0xFF, 0xFF, 0xFF, 0x80, 0x7F, 0x00] =
      .valid 5 0x0000 65535 [0xFF, 0x80, 0x7F, 0x00] := by decide
theorem test_frame_dataItem2 :
    decodeFrame gk [0x0A, 0xC0, 0x34, 0x12, 0x01, 0x02, 0x03, 0x04, 0x05, 0x06] =
      .valid 6 0x0000 4660 [0x01, 0x02, 0x03, 0x04, 0x05, 0x06] := by decide
theorem test_frame_dataItem3 : decodeFrame gk [0x04, 0xE0, 0x02, 0x00] = .valid 7 0x0000 2 [] := by decide
theorem test_frame_framing_errors :
    decodeFrame gk [] = .invalid .framingError ∧ decodeFrame gk [0x02, 0x80] = .invalid .framingError ∧
    decodeFrame gk [0x03, 0x80, 0x07] = .invalid .framingError ∧
    decodeFrame gk [0x00, 0x00, 0x18, 0x00] = .invalid .framingError ∧
    decodeFrame gk [0x08, 0x00, 0x19, 0x00, 0x80, 0x02, 0x00] = .invalid .framingError := by decide
theorem test_frame_unknown_codes :
    decodeFrame gk [0x04, 0x20, 0x18, 0x01] = .invalid .unknownItemCode ∧
    decodeFrame gk [0x04, 0x00, 0x00, 0x18] = .invalid .unknownItemCode ∧
    decodeFrame gk [0x07, 0x00, 0x19, 0x00, 0x80, 0x02, 0x00] = .invalid .unknownItemCode := by decide
theorem test_encoders :
    encodeControlItem gk 0 0x0018 [0x80, 0x02, 0x00, 0x00] =
      .frame [0x08, 0x00, 0x18, 0x00, 0x80, 0x02, 0x00, 0x00] ∧
    encodeDataItem 4 [] = .frame [0x02, 0x80] ∧
    encodeControlItem gk 4 0x0018 [] = .refused ∧ encodeControlItem gk 0 0x0019 [] = .refused := by decide

/-! One instruction, or one action of the host, on a small state (95_test_vectors.md sections 2.6 to 2.9, programs P2 and
P4). -/

/-- The reset machine with `bytes` loaded. -/
def loaded (bytes : List Byte) : State := State.reset.hostLoad bytes

/-- The next state of an outcome. -/
def after (s : State) : Host.Outcome State Fault Refusal → State
  | .next t => t
  | .fault _ => s
  | .refused _ => s

/-- The state after an instruction. -/
def run (i : Instr) (s : State) : State := after s (exec i s)

/-- The data-item frame of program P2. -/
def dataFrame : List Byte := [0x0A, 0x80, 0x34, 0x12, 0x01, 0x02, 0x03, 0x04, 0x05, 0x06]

theorem test_exec_extract8 : (run .extract8 (loaded [0xFF, 0x80, 0x7F, 0x00])).sampleWords = [255, 128, 127, 0] := by
  decide
theorem test_exec_extract16 : (run .extract16 (loaded [0xFF, 0xFF, 0x00, 0x80, 0x03])).sampleWords = [0xFFFF, 0x8000] := by
  decide
theorem test_exec_extract24 :
    (run .extract24 (loaded [0xFF, 0xFF, 0xFF, 0x00, 0x00, 0x80, 0xAA])).sampleWords = [0xFFFFFF, 0x800000] := by decide
theorem test_exec_extract32 :
    (run .extract32 (loaded [0xFF, 0xFF, 0xFF, 0xFF, 0x00, 0x00, 0x00, 0x80, 0x01])).sampleWords.map BitVec.toInt =
      [-1, -2147483648] := by decide
theorem test_exec_extract : (run (.extract 16) (loaded dataFrame)).sampleWords = [32778, 4660, 513, 1027, 1541] := by
  decide
theorem test_exec_extract_40 :
    (run (.extract 40) (loaded [])).xOk = false ∧ (run (.extract 40) (loaded [])).xCause = 3 := by decide
theorem test_exec_decode :
    (run .decode (loaded dataFrame)).seqNum = 0x1234 ∧
    (run .decode (loaded dataFrame)).bodyBytes = [0x01, 0x02, 0x03, 0x04, 0x05, 0x06] := by decide
theorem test_exec_stream :
    (run .stream ((loaded dataFrame).writeWidthCfg 24)).sinkLog =
      [{ sequenceNumber := 4660, samples := [197121, 394500] }] := by decide
theorem test_exec_stream_unconfigured :
    (run .stream (loaded dataFrame)).xCause = 3 ∧ (run .stream (loaded dataFrame)).sinkLog = [] := by decide
theorem test_exec_cfgw : (run (.cfgw 65535) (loaded dataFrame)).sampleWidthCfg = 65535 := by decide
theorem test_exec_dataItem0 : (run (.dataItem0 10) (loaded dataFrame)).msgType = 4 := by decide
theorem test_exec_ack_length : (run (.ack 9) (loaded dataFrame)).dCause = 1 := by decide
theorem test_step_withFetchWord :
    (after State.reset (step (State.reset.withFetchWord 2 0b01))).xCause = 3 ∧
    (after State.reset (step (State.reset.withFetchWord 16 0x0010))).xOk = true ∧
    (after State.reset (step (State.reset.withFetchWord 16 0x8004))).msgType = 4 := by decide

/-! States the witnesses below use. -/

/-- A frame of type 0 with `length` bytes, field2 the item code none, which is a known one. -/
def controlState (length : Half) : State :=
  (State.reset.hostLoad ([length.extractLsb' 0 8, length.extractLsb' 8 8] ++ bytesOfHalf Config.codes.noneCode)).hostWriteLen
    length

/-- The same with the item code `c`. -/
def codeState (c : Half) : State := State.reset.hostLoad ([0x04, 0x00] ++ bytesOfHalf c)

/-- A frame of type 7 with 8191 bytes. -/
def largestData : State := (State.reset.hostLoad [0xFF, 0xFF]).hostWriteLen 8191

/-- An operation in progress. -/
def busyState : State := (loaded dataFrame).accept { cmd := 0b10, bitWidth := 0 }

theorem noneCode_known : Config.codes.noneCode ∈ Config.codes.known := by simp [Config.codes, Config.itemNames]

/-- Six names cannot cover all 16-bit codes, whatever their values. -/
theorem exists_unknown_code : ∃ c : Half, c ∉ Config.codes.known := by
  by_contra h
  have hall : ∀ c : Half, c ∈ Config.codes.known := fun c => by_contra fun hc => h ⟨c, hc⟩
  have hnodup : ((List.range 7).map (BitVec.ofNat 16)).Nodup := by decide
  have := (hnodup.subperm fun c _ => hall c).length_le
  simp [Config.codes, Config.itemNames] at this

theorem controlState_field2 (n : Half) : (controlState n).inField2 = Config.codes.noneCode := by
  have h2 : (controlState n).inByte 2 = Config.codes.noneCode.extractLsb' 0 8 := rfl
  have h3 : (controlState n).inByte 3 = Config.codes.noneCode.extractLsb' 8 8 := rfl
  rw [State.inField2, h2, h3, halfOfBytes_bytesOfHalf]

theorem codeState_field2 (c : Half) : (codeState c).inField2 = c := by
  have h2 : (codeState c).inByte 2 = c.extractLsb' 0 8 := rfl
  have h3 : (codeState c).inByte 3 = c.extractLsb' 8 8 := rfl
  rw [State.inField2, h2, h3, halfOfBytes_bytesOfHalf]

theorem loaded_holdsFrame : (loaded dataFrame).HoldsFrame := ⟨by decide, by decide⟩
theorem largestData_holdsFrame : largestData.HoldsFrame := ⟨by decide, by decide⟩
theorem smallestControl_holdsFrame : (controlState 4).HoldsFrame := ⟨by decide, by decide⟩
theorem largestControl_holdsFrame : (controlState 8191).HoldsFrame := ⟨by decide, by decide⟩
theorem codeState_header (c : Half) : (codeState c).inHeader = 0x0004 := by
  have h0 : (codeState c).inByte 0 = 0x04 := rfl
  have h1 : (codeState c).inByte 1 = 0x00 := rfl
  rw [State.inHeader, h0, h1]; decide
theorem codeState_holdsFrame (c : Half) : (codeState c).HoldsFrame :=
  ⟨show 4 ≤ 4 from le_rfl, by rw [codeState_header]; rfl⟩
theorem codeState_control (c : Half) : familyBit (headerType (codeState c).inHeader) = false := by
  rw [codeState_header]; decide

/-! Witnesses, one for each obligation with hypotheses. -/

theorem witness_EncodeDecodeRoundTrip :
    (Instr.dataItem3 8191).WellFormed ∧ (Instr.cfgw 65535).WellFormed ∧ Instr.extract8.WellFormed := by decide

theorem witness_DecodedInstructionIsWellFormed :
    decode .header [0xFF, 0xFF, 0x01] = .ok (.dataItem3 8191, [0x01]) ∧
    decode .width [0x20, 0x00] = .ok (.extract32, []) ∧
    decode .command [0x01, 0xFF, 0xFF] = .ok (.extract 65535, []) := ⟨rfl, rfl, rfl⟩

theorem witness_HeaderRoundTrip : (8191 : Nat) ≤ 8191 := le_rfl

theorem witness_HeaderMatchNamesType :
    (0x0000 : Half) &&& 0xE000 = 0x0000 ∧ (0x1FFF : Half) &&& 0xE000 = 0x0000 ∧
    (0x2000 : Half) &&& 0xE000 = 0x2000 ∧ (0x3FFF : Half) &&& 0xE000 = 0x2000 ∧
    (0x4000 : Half) &&& 0xE000 = 0x4000 ∧ (0x5FFF : Half) &&& 0xE000 = 0x4000 ∧
    (0x6000 : Half) &&& 0xE000 = 0x6000 ∧ (0x7FFF : Half) &&& 0xE000 = 0x6000 ∧
    (0x8000 : Half) &&& 0xE000 = 0x8000 ∧ (0x9FFF : Half) &&& 0xE000 = 0x8000 ∧
    (0xA000 : Half) &&& 0xE000 = 0xA000 ∧ (0xBFFF : Half) &&& 0xE000 = 0xA000 ∧
    (0xC000 : Half) &&& 0xE000 = 0xC000 ∧ (0xDFFF : Half) &&& 0xE000 = 0xC000 ∧
    (0xE000 : Half) &&& 0xE000 = 0xE000 ∧ (0xFFFF : Half) &&& 0xE000 = 0xE000 := by decide

theorem witness_StepRunsDecodedInstruction :
    ((loaded dataFrame).withScript [.issue { cmd := 0b01, bitWidth := 16 }]).busy = false ∧
    decode .command (commandBytes 0b01 16) = .ok (.extract 16, []) ∧ (Instr.extract 16).WellFormed ∧
    (busyState.withScript [.wait]).inFlight = some { cmd := 0b10, bitWidth := 0 } ∧
    decode .command (commandBytes 0b10 0) = .ok (.stream, []) ∧ Instr.stream.WellFormed :=
  ⟨rfl, rfl, rfl, rfl, rfl, rfl⟩

theorem witness_DecodeRunsMessageType : 2 ≤ (loaded [0x02, 0x80]).inLen.toNat := by decide

theorem witness_ExtractRunsSampleWidth :
    decodeWidth 8 = .ok .extract8 ∧ decodeWidth 16 = .ok .extract16 ∧ decodeWidth 24 = .ok .extract24 ∧
    decodeWidth 32 = .ok .extract32 := ⟨rfl, rfl, rfl, rfl⟩

theorem witness_PresentThenWaitIsIssue :
    (loaded dataFrame).busy = false ∧
    step ((loaded dataFrame).withScript (.present { cmd := 0b10, bitWidth := 0 } :: .wait :: [])) =
      .next (((loaded dataFrame).withScript [.wait]).accept { cmd := 0b10, bitWidth := 0 }) := ⟨rfl, rfl⟩

theorem witness_BusyBlockRefusesHost : busyState.busy = true := rfl

theorem witness_StepGoesOnForAllowedActions :
    Allowed busyState .wait ∧ Allowed State.reset (.load (List.replicate 65535 0)) ∧
    ¬ Allowed State.reset (.load (List.replicate 65536 0)) ∧ ¬ Allowed busyState (.writeLen 0) := by
  refine ⟨trivial, ⟨rfl, ?_⟩, ?_, ?_⟩
  · simp only [List.length_replicate]; omega
  · intro h
    have := h.2
    simp only [List.length_replicate] at this
    omega
  · intro h
    exact absurd (show true = false from h) (by decide)

theorem witness_LoadPresentsItsBytes :
    State.reset.busy = false ∧ (List.replicate 65535 (0xAA : Byte)).length ≤ 65535 ∧ ([] : List Byte).length ≤ 65535 := by
  refine ⟨rfl, ?_, by decide⟩
  simp only [List.length_replicate]; omega

theorem witness_WritePortsWriteInput :
    State.reset.busy = false ∧ (0 : Nat) ≠ (0xFFFF : Half).toNat ∧ (0xFFFF : Nat) ≠ (0 : Half).toNat := by decide

/-- The results of a `STREAM` that is over: every output of the read port means something. -/
def results : State := run .stream ((loaded dataFrame).writeWidthCfg 16)

theorem witness_ReadReturnsResults :
    results.busy = false ∧ results.dValid = true ∧ results.xOk = true ∧
    (5 : BitVec 13).toNat < results.bodyLen.toNat ∧ results.bodyByte? (5 : BitVec 13).toNat = some 0x06 ∧
    (2 : Half).toNat < results.sampleCount.toNat ∧ results.sample? (2 : Half).toNat = some 0x0605 := by decide

theorem witness_ControlItemMessages :
    (4 = (controlState 4).inLen.toNat ∧ (controlState 4).inField2 ∈ Config.codes.known) ∧
    (8191 = (controlState 8191).inLen.toNat ∧ (controlState 8191).inField2 ∈ Config.codes.known) ∧
    ∃ s : State, 4 = s.inLen.toNat ∧ s.inField2 ∉ Config.codes.known := by
  refine ⟨⟨rfl, controlState_field2 4 ▸ noneCode_known⟩, ⟨rfl, controlState_field2 8191 ▸ noneCode_known⟩, ?_⟩
  obtain ⟨c, hc⟩ := exists_unknown_code
  exact ⟨codeState c, rfl, (codeState_field2 c).symm ▸ hc⟩

theorem witness_message_headers :
    (Instr.ack, 0b011#3) ∈ [(Instr.setControlItem, 0b000#3), (Instr.currentControlItem, 0b001#3),
      (Instr.controlItemRange, 0b010#3), (Instr.ack, 0b011#3)] ∧
    headerType 0x7FFF = 0b011 ∧ headerType 0xFFFF = 0b111 := by
  refine ⟨by simp, rfl, rfl⟩

theorem witness_DataItemMessages :
    (Instr.dataItem3, 0b111#3) ∈ [(Instr.dataItem0, 0b100#3), (Instr.dataItem1, 0b101#3), (Instr.dataItem2, 0b110#3),
      (Instr.dataItem3, 0b111#3)] ∧
    4 = (loaded [0x04, 0xE0, 0x02, 0x00]).inLen.toNat ∧ 8191 = largestData.inLen.toNat := by
  refine ⟨by simp, rfl, rfl⟩

theorem witness_MessageLengthChecks :
    (9 : Nat) ≠ (loaded dataFrame).inLen.toNat ∧ (loaded [0x03, 0x80, 0x07]).inLen.toNat < 4 ∧
    (3 : Nat) = (loaded [0x03, 0x80, 0x07]).inLen.toNat := by decide

theorem witness_DecodeAcceptsFrames :
    ((loaded dataFrame).HoldsFrame ∧ familyBit (headerType (loaded dataFrame).inHeader) = true) ∧
    (largestData.HoldsFrame ∧ familyBit (headerType largestData.inHeader) = true) ∧
    ((controlState 8191).HoldsFrame ∧ familyBit (headerType (controlState 8191).inHeader) = false ∧
      (controlState 8191).inField2 ∈ Config.codes.known) :=
  ⟨⟨loaded_holdsFrame, by decide⟩, ⟨largestData_holdsFrame, by decide⟩,
    ⟨largestControl_holdsFrame, by decide, controlState_field2 8191 ▸ noneCode_known⟩⟩

theorem witness_DecodeStatusIsExact :
    (loaded [0x08]).inLen.toNat < 2 ∧ headerLength (loaded [0x00, 0x00]).inHeader ≠ (loaded [0x00, 0x00]).inLen.toNat ∧
    (loaded [0x03, 0x80, 0x07]).inLen.toNat < 4 ∧
    (∃ s : State, s.HoldsFrame ∧ familyBit (headerType s.inHeader) = false ∧ s.inField2 ∉ Config.codes.known) ∧
    ((controlState 4).HoldsFrame ∧ (controlState 4).inField2 ∈ Config.codes.known) := by
  refine ⟨by decide, by decide, by decide, ?_, smallestControl_holdsFrame, controlState_field2 4 ▸ noneCode_known⟩
  obtain ⟨c, hc⟩ := exists_unknown_code
  exact ⟨codeState c, codeState_holdsFrame c, codeState_control c, (codeState_field2 c).symm ▸ hc⟩

theorem witness_OverlongInputIsInvalid :
    8191 < (State.reset.hostWriteLen 8192).inLen.toNat ∧ 8191 < (State.reset.hostWriteLen 65535).inLen.toNat := by decide

/-- Cuts of one byte and of the whole frame. -/
theorem witness_TruncationIsInvalid :
    decodeFrame gk [0x04, 0x00, 0x18, 0x00] = .valid 0 0x0018 0 [] ∧
    (1 : Nat) ≤ ([0x04, 0x00, 0x18, 0x00] : List Byte).length ∧
    (4 : Nat) ≤ ([0x04, 0x00, 0x18, 0x00] : List Byte).length := by decide

theorem witness_UnknownCodeIsInvalid :
    decodeFrame gk [0x06, 0x60, 0x00, 0x00, 0xAA, 0xBB] = .valid 3 0x0000 0 [0xAA, 0xBB] ∧
    familyBit 3 = false ∧ halfOfBytes 0x19 0x00 ∉ gk.known := by decide

theorem witness_ValidFrameKeepsEveryByte :
    exec .decode (loaded dataFrame) = .next (run .decode (loaded dataFrame)) ∧
    (run .decode (loaded dataFrame)).dValid = true := ⟨rfl, by decide⟩

/-- Two states with one input and different earlier results. -/
theorem witness_ResultsIgnoreHistory :
    let s := (loaded dataFrame).writeWidthCfg 16
    let s' := results
    s.inBytes = s'.inBytes ∧ s.dValid ≠ s'.dValid ∧ s.sampleWidthCfg = s'.sampleWidthCfg ∧
    (exec .decode s = .next (run .decode s) ∧ exec .decode s' = .next (run .decode s') ∧
      (run .decode s).dValid = true) ∧
    (exec (.extract 16) s = .next (run (.extract 16) s) ∧ exec (.extract 16) s' = .next (run (.extract 16) s') ∧
      (run (.extract 16) s).xOk = true) ∧
    (exec .stream s = .next (run .stream s) ∧ exec .stream s' = .next (run .stream s') ∧
      (run .stream s).xOk = true) := by
  refine ⟨by decide, by decide, by decide, ⟨rfl, rfl, by decide⟩, ⟨rfl, rfl, by decide⟩, ⟨rfl, rfl, by decide⟩⟩

theorem witness_ExtractUnsupportedWidths :
    (0 : Nat) ≠ 8 ∧ (0 : Nat) ≠ 16 ∧ (0 : Nat) ≠ 24 ∧ (0 : Nat) ≠ 32 ∧
    (65535 : Nat) ≠ 8 ∧ (65535 : Nat) ≠ 16 ∧ (65535 : Nat) ≠ 24 ∧ (65535 : Nat) ≠ 32 := by decide

theorem witness_ExtractSupportedWidths : (1 : Nat) ≤ 1 ∧ (1 : Nat) ≤ 4 ∧ (4 : Nat) ≤ 4 := by decide

theorem witness_TailIsDropped :
    4 ∣ ([0x78, 0x56, 0x34, 0x12] : List Byte).length ∧ ([0x01, 0x02, 0x03] : List Byte).length < 4 ∧
    1 ∣ ([] : List Byte).length ∧ ([] : List Byte).length < 1 := by decide

theorem witness_EmptyPayload : (loaded []).inLen = 0 ∧ ((32 : Nat) = 8 ∨ (32 : Nat) = 16 ∨ (32 : Nat) = 24 ∨ (32 : Nat) = 32) ∧
    ¬ ((40 : Nat) = 8 ∨ (40 : Nat) = 16 ∨ (40 : Nat) = 24 ∨ (40 : Nat) = 32) := by decide

theorem witness_SamplesReassemble :
    extractPayload (8 * 4) [0x00, 0x00, 0x00, 0x80, 0x01] = .ok [0x80000000] ∧
    extractPayload (8 * 1) [0xFF] = .ok [0xFF] := by decide

theorem witness_StreamDataItem :
    (((loaded dataFrame).writeWidthCfg 8).HoldsFrame ∧
      familyBit (headerType ((loaded dataFrame).writeWidthCfg 8).inHeader) = true ∧
      ((loaded dataFrame).writeWidthCfg 8).sampleWidthCfg.toNat = 8 * 1) ∧
    ((largestData.writeWidthCfg 32).HoldsFrame ∧ familyBit (headerType (largestData.writeWidthCfg 32).inHeader) = true ∧
      (largestData.writeWidthCfg 32).sampleWidthCfg.toNat = 8 * 4) :=
  ⟨⟨⟨by decide, by decide⟩, by decide, rfl⟩, ⟨⟨by decide, by decide⟩, by decide, rfl⟩⟩

theorem witness_StreamWithoutSamples :
    ((loaded dataFrame).HoldsFrame ∧ familyBit (headerType (loaded dataFrame).inHeader) = true ∧
      byteWidth? (loaded dataFrame).sampleWidthCfg.toNat = none) ∧
    ((controlState 4).HoldsFrame ∧ familyBit (headerType (controlState 4).inHeader) = false ∧
      (controlState 4).inField2 ∈ Config.codes.known) ∧
    (∃ s : State, s.HoldsFrame ∧ familyBit (headerType s.inHeader) = false ∧ s.inField2 ∉ Config.codes.known) ∧
    ¬ (loaded [0x03, 0x80, 0x07]).HoldsFrame := by
  refine ⟨⟨loaded_holdsFrame, by decide, rfl⟩,
    ⟨smallestControl_holdsFrame, by decide, controlState_field2 4 ▸ noneCode_known⟩, ?_, ?_⟩
  · obtain ⟨c, hc⟩ := exists_unknown_code
    exact ⟨codeState c, codeState_holdsFrame c, codeState_control c, (codeState_field2 c).symm ▸ hc⟩
  · intro h
    exact absurd h.enough (by decide)

theorem witness_StreamIsDecodeCopyExtract :
    let s := (loaded dataFrame).writeWidthCfg 16
    let d := run .decode s
    exec .decode s = .next d ∧ d.dValid = true ∧ familyBit d.msgType = true ∧
    exec (.extract s.sampleWidthCfg.toNat) (d.hostLoad d.bodyBytes) =
      .next (run (.extract s.sampleWidthCfg.toNat) (d.hostLoad d.bodyBytes)) ∧
    exec .stream s = .next (run .stream s) ∧ (run .stream s).xOk = true :=
  ⟨rfl, by decide, by decide, rfl, rfl, by decide⟩

theorem witness_CfgwStoresWidth : (65535 : Nat) ≤ 65535 ∧ (0 : Nat) ≤ 65535 := by decide

theorem witness_SampleWidths :
    (run .extract8 (loaded dataFrame)).sample? 9 = some 0x06 ∧ (run .extract16 (loaded dataFrame)).sample? 4 = some 0x0605 ∧
    (run .extract24 (loaded dataFrame)).sample? 2 = some 0x050403 ∧
    (run .extract32 (loaded dataFrame)).sample? 1 = some 0x04030201 := by decide

/-- A state with results of every kind that meets the invariant. -/
def invState : State :=
  ((State.reset.writeDecoded 0b100 Config.codes.noneCode 7 [0xAA]).writeSamples [0xAA]).emitSink

theorem invState_inv : Inv invState := by
  refine ⟨by decide, by decide, by decide, ⟨fun _ => rfl, by decide⟩, ?_, ?_, fun _ _ => rfl, ⟨fun _ => rfl, .inl rfl⟩,
    ?_, ?_⟩
  · intro _
    refine ⟨by decide, fun k => ?_⟩
    show (Cells.read [(0, (0xAA : Byte))] k).isSome = true ↔ k < 1
    by_cases h : 0 = k
    · simp [cells_read_cons, h.symm]
    · simp [cells_read_cons, h]; omega
  · intro _ h
    exact absurd (show true = false from h) (by decide)
  · intro _ k
    show (Cells.read [(0, (0xAA : Word))] k).isSome = true ↔ k < 1
    by_cases h : 0 = k
    · simp [cells_read_cons, h.symm]
    · simp [cells_read_cons, h]; omega
  · intro e he
    have : e = { sequenceNumber := 7, samples := [170] } := by
      have h : invState.sinkLog = [{ sequenceNumber := 7, samples := [170] }] := by decide
      rw [h] at he
      exact List.mem_singleton.mp he
    subst this
    refine ⟨by decide, fun x hx => ?_⟩
    rw [List.mem_singleton.mp hx]
    decide

theorem witness_StepKeepsInvariant : Inv invState ∧ step invState = .next invState.lowerPulses := ⟨invState_inv, rfl⟩

theorem witness_OnlyHostWritesInput : exec .stream (loaded dataFrame) = .next (run .stream (loaded dataFrame)) := rfl

theorem witness_WritersOfFlagsAndWidth :
    (exec (.cfgw 8) State.reset = .next (run (.cfgw 8) State.reset) ∧
      (run (.cfgw 8) State.reset).sampleWidthCfg ≠ State.reset.sampleWidthCfg) ∧
    (exec .decode (loaded dataFrame) = .next (run .decode (loaded dataFrame)) ∧
      (run .decode (loaded dataFrame)).dValid ≠ (loaded dataFrame).dValid) ∧
    (exec (.extract 8) State.reset = .next (run (.extract 8) State.reset) ∧
      (run (.extract 8) State.reset).xOk ≠ State.reset.xOk) ∧
    (exec .stream ((loaded dataFrame).writeWidthCfg 16) = .next results ∧
      results.sinkLog ≠ ((loaded dataFrame).writeWidthCfg 16).sinkLog) :=
  ⟨⟨rfl, by decide⟩, ⟨rfl, by decide⟩, ⟨rfl, by decide⟩, ⟨rfl, by decide⟩⟩

/-- A step that emits an event. -/
theorem witness_SinkEventsOnlyFromStream :
    let s := ((loaded dataFrame).writeWidthCfg 16).withScript [.issue { cmd := 0b10, bitWidth := 0 }]
    step s = .next (after s (step s)) ∧ (after s (step s)).sinkLog ≠ s.sinkLog := ⟨rfl, by decide⟩

theorem length_replicate_le (n m : Nat) (h : n ≤ m) : (List.replicate n (0 : Byte)).length ≤ m := by
  rw [List.length_replicate]; exact h

theorem witness_ControlItemRoundTrip :
    familyBit 0b011 = false ∧ (0x0018 : Half) ∈ gk.known ∧ (List.replicate 8187 (0 : Byte)).length ≤ 8187 :=
  ⟨by decide, by decide, length_replicate_le _ _ le_rfl⟩

theorem witness_DataItemRoundTrip :
    familyBit 0b111 = true ∧ (List.replicate 8187 (0 : Byte)).length ≤ 8187 := ⟨by decide, length_replicate_le _ _ le_rfl⟩

theorem witness_EncoderBoundary :
    (0x0018 : Half) ∈ gk.known ∧ (List.replicate 8187 (0 : Byte)).length = 8187 ∧
    (List.replicate 8188 (0 : Byte)).length = 8188 ∧ (List.replicate 8189 (0 : Byte)).length = 8189 ∧
    familyBit 0b001 = false :=
  ⟨by decide, List.length_replicate, List.length_replicate, List.length_replicate, by decide⟩

theorem witness_EncodersRejectOverlong :
    familyBit 0b000 = false ∧ (0x0000 : Half) ∈ gk.known ∧ familyBit 0b100 = true ∧
    8188 ≤ (List.replicate 8188 (0 : Byte)).length ∧ 8190 ≤ (List.replicate 8190 (0 : Byte)).length :=
  ⟨by decide, by decide, by decide, List.length_replicate.ge, List.length_replicate.ge⟩

theorem witness_EncodersRefuseOutsideDomain :
    familyBit 0b100 = true ∧ (0x0019 : Half) ∉ gk.known ∧ familyBit 0b011 = false := by decide

theorem witness_EncodedLengthIsDeclared :
    encodeControlItem gk 2 0x00B8 [] = .frame [0x04, 0x40, 0xB8, 0x00] ∧
    encodeDataItem 7 [0x02, 0x00] = .frame [0x04, 0xE0, 0x02, 0x00] := by decide

end Sys2Proof.Tests
end

/-! PROOFS of the statements about the state: what the host's actions and the instructions write and leave, that results
depend on no earlier result, and that every step keeps the invariant. -/

namespace Sys2Proof.Machine

/-! What an update leaves. A field it does not write is the same by `rfl`, which the default arguments supply. -/

theorem HostSideKept.of_fields {s t : State} (inMem : t.inMem = s.inMem := by rfl) (inLen : t.inLen = s.inLen := by rfl)
    (inGen : t.inGen = s.inGen := by rfl) (inFlight : t.inFlight = s.inFlight := by rfl)
    (done : t.done = s.done := by rfl) (hostRead : t.hostRead = s.hostRead := by rfl)
    (script : t.script = s.script := by rfl) : HostSideKept s t :=
  ⟨inMem, fun a => by rw [State.inByte, State.inByte, inMem, inGen], inLen, inGen, inFlight, done, hostRead, script⟩

theorem DecoderKept.of_fields {s t : State} (dValid : t.dValid = s.dValid := by rfl)
    (dCause : t.dCause = s.dCause := by rfl) (msgType : t.msgType = s.msgType := by rfl)
    (itemCode : t.itemCode = s.itemCode := by rfl) (seqNum : t.seqNum = s.seqNum := by rfl)
    (body : t.body = s.body := by rfl) (bodyLen : t.bodyLen = s.bodyLen := by rfl) : DecoderKept s t :=
  ⟨dValid, dCause, msgType, itemCode, seqNum, body, fun k => by rw [State.bodyByte?, State.bodyByte?, body], bodyLen⟩

theorem UnpackerKept.of_fields {s t : State} (xOk : t.xOk = s.xOk := by rfl) (xCause : t.xCause = s.xCause := by rfl)
    (samples : t.samples = s.samples := by rfl) (sampleCount : t.sampleCount = s.sampleCount := by rfl) :
    UnpackerKept s t :=
  ⟨xOk, xCause, samples, fun i => by rw [State.sample?, State.sample?, samples], sampleCount⟩

theorem HostSideKept.trans {s t u : State} (h : HostSideKept s t) (k : HostSideKept t u) : HostSideKept s u :=
  .of_fields (k.inMem.trans h.inMem) (k.inLen.trans h.inLen) (k.inGen.trans h.inGen) (k.inFlight.trans h.inFlight)
    (k.done.trans h.done) (k.hostRead.trans h.hostRead) (k.script.trans h.script)

/-- A decode writes the decoder results alone, whatever it answers (R80). -/
theorem putDecode_keeps (s : State) (r : DecodeResult) : DecodeFrame s (s.putDecode r) := by
  cases r with
  | valid => exact ⟨.of_fields, .of_fields, ⟨rfl, rfl⟩, rfl⟩
  | invalid => exact ⟨.of_fields, .of_fields, ⟨rfl, rfl⟩, rfl⟩

/-- An extraction writes the unpacker results alone, whatever it answers (R110). -/
theorem putExtract_keeps (s : State) (r : ExtractResult) : ExtractFrame s (s.putExtract r) := by
  cases r with
  | ok => exact ⟨.of_fields, .of_fields, ⟨rfl, rfl⟩, rfl⟩
  | fail => exact ⟨.of_fields, .of_fields, ⟨rfl, rfl⟩, rfl⟩

/-- What the steps of `STREAM` after the decode leave: all but the unpacker results and the sink (R132). -/
structure StreamSecondFrame (s t : State) : Prop where
  host : HostSideKept s t
  decoder : DecoderKept s t
  widthCfg : t.sampleWidthCfg = s.sampleWidthCfg

theorem streamSecond_keeps (s : State) : StreamSecondFrame s s.streamSecond := by
  rcases streamSecond_cases s with ⟨_, _, w, _, e⟩ | ⟨_, _, _, e⟩ | ⟨_, e⟩ <;> rw [e]
  · exact ⟨.of_fields, .of_fields, rfl⟩
  · exact ⟨.of_fields, .of_fields, rfl⟩
  · exact ⟨.of_fields, .of_fields, rfl⟩

/-! What each instruction answers. -/

theorem exec_decode_eq (s : State) : exec .decode s = .next s.decodeInput := rfl

theorem exec_extract_eq (n : Nat) (s : State) :
    exec (.extract n) s = .next (s.putExtract (extractPayload n s.inBytes)) := rfl

theorem exec_stream_eq (s : State) : exec .stream s = .next s.decodeInput.streamSecond := rfl

theorem exec_cfgw_eq (n : Nat) (s : State) : exec (.cfgw n) s = .next (s.writeWidthCfg (BitVec.ofNat 16 n)) := rfl

/-- The next state an instruction can answer, by the kind of its row: `exec_next` ties it to `exec`. -/
inductive Executed (s : State) : Instr → State → Prop where
  | message {i : Instr} (t : BitVec 3) (n : Nat) (row : i.level = .header) : Executed s i (s.decodeMessage t n)
  | width {i : Instr} (w : Nat) (row : i.level = .width) : Executed s i (s.putExtract (.ok (unpack w s.inBytes)))
  | decode : Executed s .decode s.decodeInput
  | extract (n : Nat) : Executed s (.extract n) (s.putExtract (extractPayload n s.inBytes))
  | stream : Executed s .stream s.decodeInput.streamSecond
  | cfgw (n : Nat) : Executed s (.cfgw n) (s.writeWidthCfg (BitVec.ofNat 16 n))

/-- Every instruction answers a next state, on every state and operand (R96, R122, R171). -/
theorem exec_answers (s : State) : ∀ i : Instr, ∃ t, exec i s = .next t ∧ Executed s i t
  | .setControlItem n => ⟨_, rfl, .message 0b000#3 n rfl⟩
  | .currentControlItem n => ⟨_, rfl, .message 0b001#3 n rfl⟩
  | .controlItemRange n => ⟨_, rfl, .message 0b010#3 n rfl⟩
  | .ack n => ⟨_, rfl, .message 0b011#3 n rfl⟩
  | .dataItem0 n => ⟨_, rfl, .message 0b100#3 n rfl⟩
  | .dataItem1 n => ⟨_, rfl, .message 0b101#3 n rfl⟩
  | .dataItem2 n => ⟨_, rfl, .message 0b110#3 n rfl⟩
  | .dataItem3 n => ⟨_, rfl, .message 0b111#3 n rfl⟩
  | .extract8 => ⟨_, rfl, .width 1 rfl⟩
  | .extract16 => ⟨_, rfl, .width 2 rfl⟩
  | .extract24 => ⟨_, rfl, .width 3 rfl⟩
  | .extract32 => ⟨_, rfl, .width 4 rfl⟩
  | .decode => ⟨_, exec_decode_eq s, .decode⟩
  | .extract n => ⟨_, exec_extract_eq n s, .extract n⟩
  | .stream => ⟨_, exec_stream_eq s, .stream⟩
  | .cfgw n => ⟨_, exec_cfgw_eq n s, .cfgw n⟩

theorem exec_next {i : Instr} {s t : State} (h : exec i s = .next t) : Executed s i t := by
  obtain ⟨u, hu, he⟩ := exec_answers s i
  obtain rfl : u = t := Host.Outcome.next.inj (hu.symm.trans h)
  exact he

/-- Settles O41, by the kind of the instruction's row: each writes decoder results, unpacker results, the sink or the
configured width. -/
theorem onlyHostWritesInput : Obligations.OnlyHostWritesInput := by
  intro i s t h
  cases exec_next h with
  | message => exact (putDecode_keeps s _).host
  | width => exact (putExtract_keeps s _).host
  | decode => exact (putDecode_keeps s _).host
  | extract => exact (putExtract_keeps s _).host
  | stream => exact (putDecode_keeps s _).host.trans (streamSecond_keeps _).host
  | cfgw => exact .of_fields

/-- Whatever flag, configured width or history of the sink differs, `i` is one of its writers (R20, R23, R134). -/
def ChangedByWriters (i : Instr) (s t : State) : Prop :=
  (t.sampleWidthCfg ≠ s.sampleWidthCfg → ∃ n, i = .cfgw n) ∧
  (t.dValid ≠ s.dValid ∨ t.dCause ≠ s.dCause → i = .decode ∨ i = .stream ∨ i.level = .header) ∧
  (t.xOk ≠ s.xOk ∨ t.xCause ≠ s.xCause → (∃ n, i = .extract n) ∨ i = .stream ∨ i.level = .width) ∧
  (t.sinkLog ≠ s.sinkLog → i = .stream)

/-- A decode changes no flag of an extraction, no configured width and no history of the sink (R80). -/
theorem writers_of_decodeFrame {i : Instr} {s t : State} (f : DecodeFrame s t)
    (hi : i = .decode ∨ i = .stream ∨ i.level = .header) : ChangedByWriters i s t := by
  simp [ChangedByWriters, f.widthCfg, f.unpacker.xOk, f.unpacker.xCause, f.sink.sinkLog, hi]

/-- An extraction changes no flag of a decode, no configured width and no history of the sink (R110). -/
theorem writers_of_extractFrame {i : Instr} {s t : State} (f : ExtractFrame s t)
    (hi : (∃ n, i = .extract n) ∨ i = .stream ∨ i.level = .width) : ChangedByWriters i s t := by
  simp [ChangedByWriters, f.widthCfg, f.decoder.dValid, f.decoder.dCause, f.sink.sinkLog, hi]

/-- Settles O42, by the kind of the instruction's row, from what a decode and an extraction leave. -/
theorem writersOfFlagsAndWidth : Obligations.WritersOfFlagsAndWidth := by
  intro i s t h
  show ChangedByWriters i s t
  cases exec_next h with
  | message _ _ row => exact writers_of_decodeFrame (putDecode_keeps s _) (.inr (.inr row))
  | width _ row => exact writers_of_extractFrame (putExtract_keeps s _) (.inr (.inr row))
  | decode => exact writers_of_decodeFrame (putDecode_keeps s _) (.inl rfl)
  | extract n => exact writers_of_extractFrame (putExtract_keeps s _) (.inl ⟨n, rfl⟩)
  | stream =>
    have hw : s.decodeInput.streamSecond.sampleWidthCfg = s.sampleWidthCfg :=
      (streamSecond_keeps _).widthCfg.trans (putDecode_keeps s _).widthCfg
    exact ⟨fun hne => absurd hw hne, fun _ => .inr (.inl rfl), fun _ => .inr (.inl rfl), fun _ => rfl⟩
  | cfgw n => simp [ChangedByWriters]

/-! What the host's actions leave of the block's results. -/

/-- The results of the block, the configured width and the history of the sink keep their values. -/
structure ResultsKept (s t : State) : Prop where
  decoder : DecoderKept s t
  unpacker : UnpackerKept s t
  sinkLog : t.sinkLog = s.sinkLog
  widthCfg : t.sampleWidthCfg = s.sampleWidthCfg

theorem withScript_keeps (s : State) (l : List HostAction) : ResultsKept s (s.withScript l) :=
  ⟨.of_fields, .of_fields, rfl, rfl⟩

theorem lowerPulses_keeps (s : State) : ResultsKept s s.lowerPulses := ⟨.of_fields, .of_fields, rfl, rfl⟩

theorem accept_keeps (s : State) (c : Command) : ResultsKept s (s.accept c) := ⟨.of_fields, .of_fields, rfl, rfl⟩

theorem complete_keeps (s : State) : ResultsKept s s.complete := ⟨.of_fields, .of_fields, rfl, rfl⟩

theorem hostWriteByte_keeps (s : State) (a : Half) (b : Byte) : ResultsKept s (s.lowerPulses.hostWriteByte a b) :=
  ⟨.of_fields, .of_fields, rfl, rfl⟩

theorem hostWriteLen_keeps (s : State) (n : Half) : ResultsKept s (s.lowerPulses.hostWriteLen n) :=
  ⟨.of_fields, .of_fields, rfl, rfl⟩

theorem hostLoad_keeps (s : State) (bytes : List Byte) : ResultsKept s (s.lowerPulses.hostLoad bytes) :=
  ⟨.of_fields, .of_fields, rfl, rfl⟩

theorem hostReadPort_keeps (s : State) (p : Port) : ResultsKept s (s.hostReadPort p) :=
  ⟨.of_fields, .of_fields, rfl, rfl⟩

theorem ResultsKept.trans {s t u : State} (h : ResultsKept s t) (k : ResultsKept t u) : ResultsKept s u where
  decoder := .of_fields (k.decoder.dValid.trans h.decoder.dValid) (k.decoder.dCause.trans h.decoder.dCause)
    (k.decoder.msgType.trans h.decoder.msgType) (k.decoder.itemCode.trans h.decoder.itemCode)
    (k.decoder.seqNum.trans h.decoder.seqNum) (k.decoder.body.trans h.decoder.body)
    (k.decoder.bodyLen.trans h.decoder.bodyLen)
  unpacker := .of_fields (k.unpacker.xOk.trans h.unpacker.xOk) (k.unpacker.xCause.trans h.unpacker.xCause)
    (k.unpacker.samples.trans h.unpacker.samples) (k.unpacker.sampleCount.trans h.unpacker.sampleCount)
  sinkLog := k.sinkLog.trans h.sinkLog
  widthCfg := k.widthCfg.trans h.widthCfg

/-- A step of a host that has an action left is that action. -/
theorem step_withScript_cons (s : State) (a : HostAction) (l : List HostAction) :
    step (s.withScript (a :: l)) = hostAct (s.withScript l) a := rfl

theorem hostAct_writeByte_idle {s : State} (h : s.busy = false) (a : Half) (b : Byte) :
    hostAct s (.writeByte a b) = .next (s.lowerPulses.hostWriteByte a b) := by
  rw [hostAct, h, cond_false]

theorem hostAct_writeLen_idle {s : State} (h : s.busy = false) (n : Half) :
    hostAct s (.writeLen n) = .next (s.lowerPulses.hostWriteLen n) := by
  rw [hostAct, h, cond_false]

/-- Settles O17, from the law of a read of `IN` after a write of one byte. -/
theorem writePortsWriteInput : Obligations.WritePortsWriteInput := by
  intro s script hidle
  have idle : (s.withScript script).busy = false := hidle
  refine ⟨fun a b => ?_, fun n => ?_⟩
  · have kept := (withScript_keeps s script).trans (hostWriteByte_keeps _ a b)
    refine ⟨_, (step_withScript_cons ..).trans (hostAct_writeByte_idle idle a b), ?_, fun k hk => ?_, rfl,
      kept.decoder, kept.unpacker, kept.sinkLog, kept.widthCfg⟩
    · rw [hostWriteByte_inByte, if_pos rfl]
    · rw [hostWriteByte_inByte, if_neg hk.symm]
      rfl
  · have kept := (withScript_keeps s script).trans (hostWriteLen_keeps _ n)
    exact ⟨_, (step_withScript_cons ..).trans (hostAct_writeLen_idle idle n), rfl, fun _ => rfl,
      kept.decoder, kept.unpacker, kept.sinkLog, kept.widthCfg⟩

/-! The invariant in its parts: the input, the decoder results, the unpacker results, the sink's history. -/

/-- The part of `Inv` that speaks of the decoder results (R15 to R17, R86, R87, R100). -/
structure DecoderInv (s : State) : Prop where
  wf : Memory.wf 8192 s.body = true
  status : (s.dValid = true → s.dCause = 0) ∧ s.dCause.toNat ≤ 2
  body : s.dValid = true → s.bodyLen.toNat ≤ 8187 ∧ ∀ k, (s.bodyByte? k).isSome = true ↔ k < s.bodyLen.toNat
  control : s.dValid = true → familyBit s.msgType = false → s.itemCode ∈ Config.codes.known ∧ s.seqNum = 0
  data : s.dValid = true → familyBit s.msgType = true → s.itemCode = Config.codes.noneCode

/-- The part of `Inv` that speaks of the unpacker results (R18, R19). -/
structure UnpackerInv (s : State) : Prop where
  wf : Cells.wf 65536 s.samples = true
  status : (s.xOk = true → s.xCause = 0) ∧ (s.xCause = 0 ∨ s.xCause = 3)
  samples : s.xOk = true → ∀ i, (s.sample? i).isSome = true ↔ i < s.sampleCount.toNat

/-- The part of `Inv` that speaks of the sink's history (R134). -/
def SinkInv (log : List SinkEvent) : Prop :=
  ∀ e ∈ log, e.samples.length ≤ 8187 ∧ ∀ x ∈ e.samples, -2 ^ 31 ≤ x ∧ x < 2 ^ 31

theorem inv_iff (s : State) :
    Inv s ↔ Memory.wf 65536 s.inMem = true ∧ DecoderInv s ∧ UnpackerInv s ∧ SinkInv s.sinkLog := by
  constructor
  · rintro ⟨inWf, bodyWf, samplesWf, dStatus, dBody, dControl, dData, xStatus, xSamples, sink⟩
    exact ⟨inWf, ⟨bodyWf, dStatus, dBody, dControl, dData⟩, ⟨samplesWf, xStatus, xSamples⟩, sink⟩
  · rintro ⟨inWf, ⟨bodyWf, dStatus, dBody, dControl, dData⟩, ⟨samplesWf, xStatus, xSamples⟩, sink⟩
    exact ⟨inWf, bodyWf, samplesWf, dStatus, dBody, dControl, dData, xStatus, xSamples, sink⟩

theorem DecoderInv.of_kept {s t : State} (h : DecoderInv s) (k : DecoderKept s t) : DecoderInv t := by
  obtain ⟨wf, status, body, control, data⟩ := h
  constructor <;> simpa only [k.dValid, k.dCause, k.msgType, k.itemCode, k.seqNum, k.body, k.bodyByte, k.bodyLen]

theorem UnpackerInv.of_kept {s t : State} (h : UnpackerInv s) (k : UnpackerKept s t) : UnpackerInv t := by
  obtain ⟨wf, status, samples⟩ := h
  constructor <;> simpa only [k.xOk, k.xCause, k.samples, k.sample, k.sampleCount]

/-- An action that keeps the block's results keeps the invariant where it keeps the canonical form of `IN`. -/
theorem Inv.of_resultsKept {s t : State} (h : Inv s) (k : ResultsKept s t) (hin : Memory.wf 65536 t.inMem = true) :
    Inv t := by
  obtain ⟨-, hd, hx, hl⟩ := (inv_iff s).1 h
  exact (inv_iff t).2 ⟨hin, hd.of_kept k.decoder, hx.of_kept k.unpacker, k.sinkLog ▸ hl⟩

/-! The decoder's part. -/

/-- Without a valid decode only the status and the form of `BODY` are claimed. -/
theorem decoderInv_of_invalid {s : State} (hw : Memory.wf 8192 s.body = true) (hv : s.dValid = false)
    (hc : s.dCause.toNat ≤ 2) : DecoderInv s := by
  refine ⟨hw, ⟨?_, hc⟩, ?_, ?_, ?_⟩ <;> simp [hv]

/-- A body of at most 8187 bytes fits `BODY` and the 13 bits of `BODY_LEN` (R16, R100). -/
theorem writeDecoded_decoderInv (s : State) {t : BitVec 3} {c q : Half} {b : List Byte} (hb : b.length ≤ 8187)
    (control : familyBit t = false → c ∈ Config.codes.known ∧ q = 0)
    (data : familyBit t = true → c = Config.codes.noneCode) : DecoderInv (s.writeDecoded t c q b) := by
  have hlen : (s.writeDecoded t c q b).bodyLen.toNat = b.length := by
    rw [writeDecoded_bodyLen, BitVec.toNat_ofNat]
    omega
  refine ⟨cells_ofList_wf (by omega), ⟨fun _ => rfl, by simp⟩, fun _ => ⟨by omega, fun k => ?_⟩, fun _ => control,
    fun _ => data⟩
  rw [writeDecoded_bodyByte?, hlen]
  simp

/-- A frame decodes to results that meet the decoder's part, whatever state they are written to: a valid frame has the
length its 13-bit field declares, so its body has at most 8187 bytes (R86, R87, R99, R100). -/
theorem putDecode_decodeFrame_decoderInv (s : State) (f : List Byte) :
    DecoderInv (s.putDecode (decodeFrame Config.codes f)) := by
  cases h : decodeFrame Config.codes f with
  | valid t c q b =>
    obtain ⟨_, hlen, _, rfl, family⟩ := decodeFrame_valid h
    have hle := headerLength_le (headerWord f)
    refine writeDecoded_decoderInv s (by rw [frameTail_length]; omega) (fun ht => ?_) (fun ht => ?_)
    · rcases family with ⟨_, _, hk, hq⟩ | ⟨ht', _⟩
      · exact ⟨hk, hq⟩
      · simp [ht] at ht'
    · rcases family with ⟨ht', _⟩ | ⟨_, hc, _⟩
      · simp [ht] at ht'
      · exact hc
  | invalid k =>
    rcases decodeFrame_invalid h with rfl | rfl
    · exact decoderInv_of_invalid rfl rfl (by simp [State.putDecode])
    · exact decoderInv_of_invalid rfl rfl (by simp [State.putDecode])

theorem decodeInput_decoderInv (s : State) : DecoderInv s.decodeInput := putDecode_decodeFrame_decoderInv s s.inBytes

/-! The unpacker's part. -/

/-- Without a successful extraction only the status and the form of `SAMPLES` are claimed. -/
theorem unpackerInv_of_notOk {s : State} (hw : Cells.wf 65536 s.samples = true) (hv : s.xOk = false)
    (hc : s.xCause = 0 ∨ s.xCause = 3) : UnpackerInv s := by
  refine ⟨hw, ⟨?_, hc⟩, ?_⟩ <;> simp [hv]

/-- At most 65535 words fit `SAMPLES` and the 16 bits of `SAMPLE_COUNT` (R18). -/
theorem writeSamples_unpackerInv (s : State) {ws : List Word} (h : ws.length ≤ 65535) :
    UnpackerInv (s.writeSamples ws) := by
  have hcount : (s.writeSamples ws).sampleCount.toNat = ws.length := by
    rw [writeSamples_sampleCount, BitVec.toNat_ofNat]
    omega
  refine ⟨cells_ofList_wf (by omega), ⟨fun _ => rfl, .inl rfl⟩, fun _ i => ?_⟩
  rw [writeSamples_sample?, hcount]
  simp

theorem raiseFail_unpackerInv (s : State) : UnpackerInv (s.raiseFail .unsupportedSampleWidth) :=
  unpackerInv_of_notOk rfl rfl (.inr rfl)

/-- A payload yields no more samples than it has bytes. -/
theorem unpack_length_le (w : Nat) (p : List Byte) : (unpack w p).length ≤ p.length := by
  rw [unpack_length]
  exact Nat.div_le_self _ _

theorem putExtract_unpackerInv (s : State) (bw : Nat) {p : List Byte} (h : p.length ≤ 65535) :
    UnpackerInv (s.putExtract (extractPayload bw p)) := by
  rcases extractPayload_cases bw p with ⟨w, _, e⟩ | ⟨_, e⟩ <;> rw [e]
  · exact writeSamples_unpackerInv s ((unpack_length_le w p).trans h)
  · exact raiseFail_unpackerInv s

theorem inBytes_length_le (s : State) : s.inBytes.length ≤ 65535 := by
  have := s.inLen.isLt
  rw [inBytes_length]
  omega

/-! The sink's part, and the steps of `STREAM`. -/

/-- A sink event carries the signed values of at most a body's worth of words (R134). -/
theorem emitSink_sinkInv {s : State} (h : SinkInv s.sinkLog) (hcount : s.sampleCount.toNat ≤ 8187) :
    SinkInv s.emitSink.sinkLog := by
  intro e he
  rw [emitSink_sinkLog, List.mem_append, List.mem_singleton] at he
  rcases he with he | rfl
  · exact h e he
  · refine ⟨by simpa using hcount, fun x hx => ?_⟩
    obtain ⟨word, -, rfl⟩ := List.mem_map.1 hx
    exact ⟨BitVec.le_toInt word, BitVec.toInt_lt⟩

/-- Where the decoder results meet their part, `BODY` bounds what `STREAM` extracts and emits (R132, R134). -/
theorem streamSecond_inv {s : State} (hd : DecoderInv s) (hl : SinkInv s.sinkLog) :
    UnpackerInv s.streamSecond ∧ SinkInv s.streamSecond.sinkLog := by
  rcases streamSecond_cases s with ⟨valid, _, w, _, e⟩ | ⟨_, _, _, e⟩ | ⟨_, e⟩ <;> rw [e]
  · have hlen : (unpack w s.bodyBytes).length ≤ 8187 :=
      calc (unpack w s.bodyBytes).length ≤ s.bodyBytes.length := unpack_length_le w _
        _ = s.bodyLen.toNat := bodyBytes_length s
        _ ≤ 8187 := (hd.body valid).1
    have hx : UnpackerInv (s.writeSamples (unpack w s.bodyBytes)) := writeSamples_unpackerInv s (by omega)
    refine ⟨hx.of_kept .of_fields, emitSink_sinkInv hl ?_⟩
    rw [writeSamples_sampleCount, BitVec.toNat_ofNat]
    omega
  · exact ⟨raiseFail_unpackerInv s, hl⟩
  · exact ⟨unpackerInv_of_notOk rfl rfl (.inl rfl), hl⟩

/-! Every operation and every action of the host keeps the invariant. -/

theorem decodeInput_inv {s : State} (h : Inv s) : Inv s.decodeInput := by
  obtain ⟨hin, -, hx, hl⟩ := (inv_iff s).1 h
  have frame : DecodeFrame s s.decodeInput := putDecode_keeps s _
  exact (inv_iff _).2
    ⟨frame.host.inMem ▸ hin, decodeInput_decoderInv s, hx.of_kept frame.unpacker, frame.sink.sinkLog ▸ hl⟩

theorem putExtract_inv {s : State} (h : Inv s) (bw : Nat) : Inv (s.putExtract (extractPayload bw s.inBytes)) := by
  obtain ⟨hin, hd, -, hl⟩ := (inv_iff s).1 h
  have frame := putExtract_keeps s (extractPayload bw s.inBytes)
  exact (inv_iff _).2 ⟨frame.host.inMem ▸ hin, hd.of_kept frame.decoder,
    putExtract_unpackerInv s bw (inBytes_length_le s), frame.sink.sinkLog ▸ hl⟩

theorem stream_inv {s : State} (h : Inv s) : Inv s.decodeInput.streamSecond := by
  obtain ⟨hin, hd, -, hl⟩ := (inv_iff _).1 (decodeInput_inv h)
  have frame := streamSecond_keeps s.decodeInput
  obtain ⟨hx, hl'⟩ := streamSecond_inv hd hl
  exact (inv_iff _).2 ⟨frame.host.inMem ▸ hin, hd.of_kept frame.decoder, hx, hl'⟩

theorem writeWidthCfg_inv {s : State} (h : Inv s) (n : Half) : Inv (s.writeWidthCfg n) := by
  obtain ⟨hin, hd, hx, hl⟩ := (inv_iff s).1 h
  exact (inv_iff _).2 ⟨hin, hd.of_kept .of_fields, hx.of_kept .of_fields, hl⟩

/-- Every command keeps the invariant (R63: the four are all there are). -/
theorem command_inv {s t : State} (h : Inv s) (c : Command) (he : exec (decodeCommand c.cmd c.bitWidth) s = .next t) :
    Inv t := by
  rcases decodeCommand_cases c.cmd c.bitWidth with e | e | e | e <;> rw [e] at he
  · rw [exec_decode_eq] at he; cases he
    exact decodeInput_inv h
  · rw [exec_extract_eq] at he; cases he
    exact putExtract_inv h _
  · rw [exec_stream_eq] at he; cases he
    exact stream_inv h
  · rw [exec_cfgw_eq] at he; cases he
    exact writeWidthCfg_inv h _

theorem runInFlight_inv {s t : State} (h : Inv s) (hr : runInFlight s = .next t) : Inv t := by
  rcases runInFlight_next hr with ⟨_, rfl⟩ | ⟨c, u, _, hu, rfl⟩
  · exact h
  · have hu' := command_inv h c hu
    exact hu'.of_resultsKept (complete_keeps u) hu'.inWf

/-- Reset leaves neither a valid decode nor a successful extraction, and no listed cell (R24, R190). -/
theorem resetBlock_inv {s : State} (h : Inv s) : Inv s.resetBlock :=
  (inv_iff _).2 ⟨rfl, decoderInv_of_invalid rfl rfl (by simp), unpackerInv_of_notOk rfl rfl (.inl rfl), h.sink⟩

theorem hostAct_inv {s t : State} {a : HostAction} (h : Inv s) (ha : hostAct s a = .next t) : Inv t := by
  rcases hostAct_next ha with ⟨c, _, _, hr⟩ | ⟨c, _, _, rfl⟩ | ⟨_, hr⟩ | ⟨d, b, _, _, rfl⟩ | ⟨n, _, _, rfl⟩ |
    ⟨bytes, _, _, hlen, rfl⟩ | ⟨p, _, rfl⟩ | ⟨_, rfl⟩
  · exact runInFlight_inv (h.of_resultsKept (accept_keeps s c) h.inWf) hr
  · exact h.of_resultsKept (accept_keeps s c) h.inWf
  · exact runInFlight_inv (h.of_resultsKept (lowerPulses_keeps s) h.inWf) hr
  · exact h.of_resultsKept (hostWriteByte_keeps s d b) (cells_write_wf h.inWf d.isLt b)
  · exact h.of_resultsKept (hostWriteLen_keeps s n) h.inWf
  · exact h.of_resultsKept (hostLoad_keeps s bytes) (cells_overwrite_wf h.inWf (by omega))
  · exact h.of_resultsKept (hostReadPort_keeps s p) h.inWf
  · exact resetBlock_inv h

/-- Settles O39: a step is one action of the host, and every action keeps each part of the invariant. -/
theorem stepKeepsInvariant : Obligations.StepKeepsInvariant := by
  intro s t h hstep
  rw [step_eq] at hstep
  exact hostAct_inv (h.of_resultsKept (withScript_keeps s s.script.tail) h.inWf) hstep

/-- Settles O40: the reset state has empty buffers, no valid decode, no successful extraction and no sink event. -/
theorem resetHasInvariant : Obligations.ResetHasInvariant := by
  obtain ⟨hin, hbody, hsamples⟩ := reset_buffers_wf
  exact (inv_iff _).2 ⟨hin, decoderInv_of_invalid hbody rfl (by decide),
    unpackerInv_of_notOk hsamples rfl (.inl rfl), fun e he => absurd he List.not_mem_nil⟩

/-- Settles O15, by the fields of the reset state. -/
theorem resetStateValues : Obligations.ResetStateValues := ⟨rfl, rfl, rfl, rfl, rfl, rfl⟩

/-! Two states with the same specified results. -/

/-- The same status of a decode, and where it is valid the same results (R12, R15 to R17). -/
structure SameDecode (t t' : State) : Prop where
  dValid : t.dValid = t'.dValid
  dCause : t.dCause = t'.dCause
  results : t.dValid = true → t.msgType = t'.msgType ∧ t.itemCode = t'.itemCode ∧ t.seqNum = t'.seqNum ∧
    t.body = t'.body ∧ t.bodyLen = t'.bodyLen

/-- The same status of an extraction, and where it succeeded the same samples (R12, R18, R19). -/
structure SameExtract (t t' : State) : Prop where
  xOk : t.xOk = t'.xOk
  xCause : t.xCause = t'.xCause
  results : t.xOk = true → t.samples = t'.samples ∧ t.sampleCount = t'.sampleCount

/-- The specified results of a decode are a function of the frame. -/
theorem putDecode_sameDecode (s s' : State) (f : List Byte) :
    SameDecode (s.putDecode (decodeFrame Config.codes f)) (s'.putDecode (decodeFrame Config.codes f)) := by
  cases h : decodeFrame Config.codes f with
  | valid => exact ⟨rfl, rfl, fun _ => ⟨rfl, rfl, rfl, rfl, rfl⟩⟩
  | invalid =>
    rcases decodeFrame_invalid h with rfl | rfl
    · exact ⟨rfl, rfl, fun hv => nomatch hv⟩
    · exact ⟨rfl, rfl, fun hv => nomatch hv⟩

/-- The specified results of an extraction are a function of the operand and the payload. -/
theorem putExtract_sameExtract (s s' : State) (bw : Nat) (p : List Byte) :
    SameExtract (s.putExtract (extractPayload bw p)) (s'.putExtract (extractPayload bw p)) := by
  rcases extractPayload_cases bw p with ⟨_, _, e⟩ | ⟨_, e⟩ <;> rw [e]
  · exact ⟨rfl, rfl, fun _ => ⟨rfl, rfl⟩⟩
  · exact ⟨rfl, rfl, fun hv => nomatch hv⟩

theorem SameDecode.of_kept {s s' t t' : State} (h : SameDecode s s') (k : DecoderKept s t) (k' : DecoderKept s' t') :
    SameDecode t t' := by
  obtain ⟨dValid, dCause, results⟩ := h
  constructor <;> simpa only [k.dValid, k.dCause, k.msgType, k.itemCode, k.seqNum, k.body, k.bodyLen,
    k'.dValid, k'.dCause, k'.msgType, k'.itemCode, k'.seqNum, k'.body, k'.bodyLen]

theorem SameExtract.of_kept {s s' t t' : State} (h : SameExtract s s') (k : UnpackerKept s t)
    (k' : UnpackerKept s' t') : SameExtract t t' := by
  obtain ⟨xOk, xCause, results⟩ := h
  constructor <;> simpa only [k.xOk, k.xCause, k.samples, k.sampleCount, k'.xOk, k'.xCause, k'.samples, k'.sampleCount]

/-- The bytes of `BODY` are the same after the same valid decode: it lists every cell below `BODY_LEN`, so that none of
them reads as a free value (R16). -/
theorem SameDecode.bodyBytes_eq {s s' : State} (h : SameDecode s s') (hd : DecoderInv s) (valid : s.dValid = true) :
    s.bodyBytes = s'.bodyBytes := by
  obtain ⟨-, -, -, body, bodyLen⟩ := h.results valid
  rw [State.bodyBytes, State.bodyBytes, ← bodyLen]
  refine List.map_congr_left fun k hk => ?_
  obtain ⟨b, hb⟩ := Option.isSome_iff_exists.1 (((hd.body valid).2 k).2 (List.mem_range.1 hk))
  have hb' : s'.bodyByte? k = some b := by rw [← hb, State.bodyByte?, State.bodyByte?, body]
  rw [hb, hb', Option.getD_some, Option.getD_some]

/-- A sink event leaves the samples it carries (R134). -/
theorem extractBody_keeps (s : State) :
    UnpackerKept (s.putExtract (extractPayload s.sampleWidthCfg.toNat s.bodyBytes)) s.extractBody := by
  rw [State.extractBody]
  cases (s.putExtract (extractPayload s.sampleWidthCfg.toNat s.bodyBytes)).xOk
  · exact .of_fields
  · exact .of_fields

/-- After the same decode, at the same configured width, the steps of `STREAM` answer the same (R132). -/
theorem SameDecode.streamSecond {s s' : State} (h : SameDecode s s') (hd : DecoderInv s)
    (hw : s.sampleWidthCfg = s'.sampleWidthCfg) : SameExtract s.streamSecond s'.streamSecond := by
  have hguard : (s.dValid && familyBit s.msgType) = (s'.dValid && familyBit s'.msgType) := by
    rw [← h.dValid]
    cases valid : s.dValid with
    | false => rfl
    | true => rw [(h.results valid).1]
  rw [State.streamSecond, State.streamSecond, ← hguard]
  cases guard : s.dValid && familyBit s.msgType with
  | false => exact ⟨rfl, rfl, fun hv => nomatch hv⟩
  | true =>
    obtain ⟨valid, -⟩ := Bool.and_eq_true_iff.1 guard
    have same := putExtract_sameExtract s s' s.sampleWidthCfg.toNat s.bodyBytes
    refine same.of_kept (extractBody_keeps s) ?_
    rw [hw, h.bodyBytes_eq hd valid]
    exact extractBody_keeps s'

/-- Settles O28: the frame fixes the decode, the operand and the payload fix the extraction, and the payload of `STREAM`
is the body its own decode has just written. -/
theorem resultsIgnoreHistory : Obligations.ResultsIgnoreHistory := by
  intro s s' input
  have same : SameDecode s.decodeInput s'.decodeInput := by
    rw [State.decodeInput, State.decodeInput, ← input]
    exact putDecode_sameDecode s s' _
  refine ⟨fun t t' ht ht' => ?_, fun n t t' ht ht' => ?_, fun width t t' ht ht' => ?_⟩
  · rw [exec_decode_eq] at ht ht'
    cases ht
    cases ht'
    exact ⟨same.dValid, same.dCause, same.results⟩
  · rw [exec_extract_eq] at ht ht'
    cases ht
    cases ht'
    have sameX := putExtract_sameExtract s s' n s.inBytes
    rw [← input]
    exact ⟨sameX.xOk, sameX.xCause, sameX.results⟩
  · rw [exec_stream_eq] at ht ht'
    cases ht
    cases ht'
    have hw : s.decodeInput.sampleWidthCfg = s'.decodeInput.sampleWidthCfg :=
      (putDecode_keeps s _).widthCfg.trans (width.trans (putDecode_keeps s' _).widthCfg.symm)
    have sameX := same.streamSecond (decodeInput_decoderInv s) hw
    have sameD := same.of_kept (streamSecond_keeps _).decoder (streamSecond_keeps _).decoder
    exact ⟨sameD.dValid, sameD.dCause, sameX.xOk, sameX.xCause, sameD.results, sameX.results⟩

end Sys2Proof.Machine

/-! PROOFS of the statements about the encodings: the header's fields by arithmetic and by mask, the round trip of the
decoder and the encoder in each encoding space, and the two actions that 30_encoding.md ties to them, `LOAD` and
`EXTRACT`. -/

namespace Sys2Proof

/-! The fields of the header over the integers (R51, R52). -/

theorem halfOfBytes_toNat (b0 b1 : Byte) : (halfOfBytes b0 b1).toNat = b0.toNat + 256 * b1.toNat := by
  rw [halfOfBytes, BitVec.toNat_append, ← Nat.shiftLeft_add_eq_or_of_lt b0.isLt, Nat.shiftLeft_eq]
  omega

theorem headerType_toNat (h : Half) : (headerType h).toNat = h.toNat / 8192 := by
  have := h.isLt
  rw [headerType, BitVec.extractLsb'_toNat, Nat.shiftRight_eq_div_pow]
  omega

theorem headerLength_eq_mod (h : Half) : headerLength h = h.toNat % 8192 := by
  rw [headerLength, BitVec.extractLsb'_toNat, Nat.shiftRight_zero]

/-- Settles O4: type and length are quotient and remainder of the header by 8192, and the header is its two bytes
to the base 256. -/
theorem headerFieldsByArithmetic : Obligations.HeaderFieldsByArithmetic := by
  intro b0 b1
  have := b0.isLt
  rw [headerLength_eq_mod, headerType_toNat, halfOfBytes_toNat]
  refine ⟨rfl, rfl, ?_, ?_, ?_⟩ <;> omega

/-! The header under the mask (R53, R54). -/

/-- The mask `0xE000` keeps exactly the type field. -/
theorem headerType_masked (h : Half) : headerType (h &&& 0xE000) = headerType h := by
  rw [headerType, headerType, BitVec.extractLsb'_and]
  exact BitVec.and_allOnes

/-- A match value of R53 is the header of its type with every length bit zero. -/
theorem decodeHeader_of_match {h : Half} (t : BitVec 3) (hm : h &&& 0xE000 = headerOf t 0) :
    decodeHeader h = messageInstr t (headerLength h) := by
  have ht : headerType h = t := by rw [← headerType_masked, hm, headerType_headerOf]
  rw [decodeHeader, ht]

theorem familyBit_iff : ∀ t : BitVec 3, Machine.familyBit t = true ↔ 4 ≤ t.toNat := by decide

theorem familyBit_headerType (h : Half) : Machine.familyBit (headerType h) = h.getLsbD 15 := by
  simp [Machine.familyBit, headerType]

/-- Bit 15 of a half is bit 7 of its second byte (R32). -/
theorem halfOfBytes_getLsbD_top (b0 b1 : Byte) : (halfOfBytes b0 b1).getLsbD 15 = b1.getLsbD 7 := by
  rw [halfOfBytes, BitVec.getLsbD_append]
  rfl

/-- Settles O5: each match value fixes the type field, and the family is the top bit of that field. -/
theorem headerMatchNamesType : Obligations.HeaderMatchNamesType := fun h =>
  ⟨decodeHeader_of_match 0b000#3, decodeHeader_of_match 0b001#3, decodeHeader_of_match 0b010#3,
    decodeHeader_of_match 0b011#3, decodeHeader_of_match 0b100#3, decodeHeader_of_match 0b101#3,
    decodeHeader_of_match 0b110#3, decodeHeader_of_match 0b111#3, familyBit_iff _, familyBit_headerType h,
    fun b0 b1 => (familyBit_headerType _).trans (halfOfBytes_getLsbD_top b0 b1)⟩

/-! The commands (R63). -/

theorem decodeCommand_decode (b : Half) : decodeCommand 0b00#2 b = .decode := rfl

theorem decodeCommand_extract (b : Half) : decodeCommand 0b01#2 b = .extract b.toNat := rfl

theorem decodeCommand_stream (b : Half) : decodeCommand 0b10#2 b = .stream := rfl

theorem decodeCommand_cfgw (b : Half) : decodeCommand 0b11#2 b = .cfgw b.toNat := rfl

/-- Settles O6, by the four rows of the command table. -/
theorem commandSelectsOperation : Obligations.CommandSelectsOperation := fun b =>
  ⟨decodeCommand_decode b, decodeCommand_extract b, decodeCommand_stream b, decodeCommand_cfgw b⟩

/-! Each encoding space reads back what its encoder lays out. -/

theorem decode_header_bytesOfHalf (h : Half) (rest : List Byte) :
    decode .header (bytesOfHalf h ++ rest) = .ok (decodeHeader h, rest) := by
  simp [bytesOfHalf, decode]

theorem decode_width_bytesOfHalf {h : Half} {i : Instr} (hi : decodeWidth h = .ok i) (rest : List Byte) :
    decode .width (bytesOfHalf h ++ rest) = .ok (i, rest) := by
  simp [bytesOfHalf, decode, hi]

/-- A header encoded from a length that fits reads back as the message of its type (R51, R61). -/
theorem decode_headerOf (t : BitVec 3) {n : Nat} (hn : lengthFits n = true) (rest : List Byte) :
    decode .header (bytesOfHalf (headerOf t n) ++ rest) = .ok (messageInstr t n, rest) := by
  rw [decode_header_bytesOfHalf, decodeHeader_headerOf t ((lengthFits_iff n).1 hn)]

theorem toNat_ofNat_of_bitWidthFits {n : Nat} (hn : bitWidthFits n = true) : (BitVec.ofNat 16 n).toNat = n := by
  have := (bitWidthFits_iff n).1 hn
  rw [BitVec.toNat_ofNat]
  omega

/-- Settles O1, by the instruction's row: a header through its fields, a width operand by its value, a command through
its pair. -/
theorem encodeDecodeRoundTrip : Obligations.EncodeDecodeRoundTrip := by
  intro i rest hi
  cases i with
  | setControlItem n => exact decode_headerOf 0b000#3 hi rest
  | currentControlItem n => exact decode_headerOf 0b001#3 hi rest
  | controlItemRange n => exact decode_headerOf 0b010#3 hi rest
  | ack n => exact decode_headerOf 0b011#3 hi rest
  | dataItem0 n => exact decode_headerOf 0b100#3 hi rest
  | dataItem1 n => exact decode_headerOf 0b101#3 hi rest
  | dataItem2 n => exact decode_headerOf 0b110#3 hi rest
  | dataItem3 n => exact decode_headerOf 0b111#3 hi rest
  | extract8 => exact decode_width_bytesOfHalf rfl rest
  | extract16 => exact decode_width_bytesOfHalf rfl rest
  | extract24 => exact decode_width_bytesOfHalf rfl rest
  | extract32 => exact decode_width_bytesOfHalf rfl rest
  | decode => exact decode_commandBytes 0b00#2 0#16 rest
  | extract n =>
    have h := decode_commandBytes 0b01#2 (BitVec.ofNat 16 n) rest
    rwa [decodeCommand_extract, toNat_ofNat_of_bitWidthFits hi] at h
  | stream => exact decode_commandBytes 0b10#2 0#16 rest
  | cfgw n =>
    have h := decode_commandBytes 0b11#2 (BitVec.ofNat 16 n) rest
    rwa [decodeCommand_cfgw, toNat_ofNat_of_bitWidthFits hi] at h

/-- Settles O7, by evaluating the decoder on each of the eight words. -/
theorem writtenWordsDecode : Obligations.WrittenWordsDecode := ⟨rfl, rfl, rfl, rfl, rfl, rfl, rfl, rfl⟩

/-- A width operand that names an instruction has one of four values, and names that width (R62). -/
theorem decodeWidth_ok_cases {b : Half} {i : Instr} (h : decodeWidth b = .ok i) :
    (b.toNat = 8 ∧ i = .extract8) ∨ (b.toNat = 16 ∧ i = .extract16) ∨ (b.toNat = 24 ∧ i = .extract24) ∨
      (b.toNat = 32 ∧ i = .extract32) := by
  unfold decodeWidth at h
  split at h <;> simp_all

end Sys2Proof

namespace Sys2Proof.Machine

/-- Settles O10, by the width the operand names: `EXTRACT` selects the same byte width by the same value. -/
theorem extractRunsSampleWidth : Obligations.ExtractRunsSampleWidth := by
  intro s b i h
  rcases decodeWidth_ok_cases h with ⟨hb, rfl⟩ | ⟨hb, rfl⟩ | ⟨hb, rfl⟩ | ⟨hb, rfl⟩ <;> rw [hb] <;> rfl

theorem hostAct_load_idle {s : State} {bytes : List Byte} (h : s.busy = false) (hlen : bytes.length ≤ 65535) :
    hostAct s (.load bytes) = .next (s.lowerPulses.hostLoad bytes) := by
  rw [hostAct, h, cond_false, if_neg (Nat.not_lt.2 hlen)]

/-- A byte at or beyond the loaded count keeps its value (log entry 11). -/
theorem hostLoad_inByte_beyond (s : State) {bytes : List Byte} {a : Nat} (h : bytes.length ≤ a) :
    (s.hostLoad bytes).inByte a = s.inByte a := by
  rw [hostLoad_inByte, List.getD_eq_default _ _ h]

theorem hostLoad_inLen_toNat (s : State) {bytes : List Byte} (h : bytes.length ≤ 65535) :
    (s.hostLoad bytes).inLen.toNat = bytes.length := by
  rw [← inBytes_length, hostLoad_inBytes s bytes h]

/-- Settles O16, from the laws of a read of `IN` after `LOAD` and from what `LOAD` leaves of the block's results. -/
theorem loadPresentsItsBytes : Obligations.LoadPresentsItsBytes := by
  intro s bytes script hidle hlen
  have idle : (s.withScript script).busy = false := hidle
  have kept := (withScript_keeps s script).trans (hostLoad_keeps _ bytes)
  exact ⟨_, (step_withScript_cons ..).trans (hostAct_load_idle idle hlen), hostLoad_inBytes _ bytes hlen,
    hostLoad_inLen_toNat _ hlen, fun _ ha => hostLoad_inByte_beyond _ ha, kept.decoder, kept.unpacker, kept.sinkLog,
    kept.widthCfg, hidle, rfl⟩

end Sys2Proof.Machine

/-! PROOFS of the statements about the frame decoder: what each message answers by the check it passes or fails, what
`DECODE` answers on a frame, on an overlong input and on a frame cut or overwritten, and which host actions a step takes. -/

namespace Sys2Proof.Machine

/-! The checks of a message, one equation each (R83 to R87). -/

theorem messageFrame_framingError (codes : Config.CodeTable) (t : BitVec 3) {n : Nat} {f : List Byte}
    (h : n ≠ f.length ∨ f.length < 4) : messageFrame codes t n f = .invalid .framingError := by
  rcases messageFrame_cases codes t n f with ⟨e, _⟩ | ⟨_, hn, h4, _⟩ | ⟨_, hn, h4, _⟩ | ⟨_, hn, h4, _⟩
  · exact e
  all_goals omega

/-- Past the length checks the family alone chooses the body step (R85). -/
theorem messageFrame_of_length (codes : Config.CodeTable) (t : BitVec 3) {f : List Byte} (h : 4 ≤ f.length) :
    messageFrame codes t f.length f = bif familyBit t then dataItemBody codes t f else controlItemBody codes t f := by
  rw [messageFrame, if_neg (not_not_intro rfl), if_neg (Nat.not_lt.2 h)]

theorem messageFrame_dataItem (codes : Config.CodeTable) {t : BitVec 3} {f : List Byte} (h : 4 ≤ f.length)
    (ht : familyBit t = true) :
    messageFrame codes t f.length f = .valid t codes.noneCode (field2 f) (frameTail f) := by
  rw [messageFrame_of_length codes t h, ht, cond_true, dataItemBody]

theorem messageFrame_knownCode {codes : Config.CodeTable} {t : BitVec 3} {f : List Byte} (h : 4 ≤ f.length)
    (ht : familyBit t = false) (hk : field2 f ∈ codes.known) :
    messageFrame codes t f.length f = .valid t (field2 f) 0 (frameTail f) := by
  rw [messageFrame_of_length codes t h, ht, cond_false, controlItemBody, if_pos hk]

theorem messageFrame_unknownCode {codes : Config.CodeTable} {t : BitVec 3} {f : List Byte} (h : 4 ≤ f.length)
    (ht : familyBit t = false) (hk : field2 f ∉ codes.known) :
    messageFrame codes t f.length f = .invalid .unknownItemCode := by
  rw [messageFrame_of_length codes t h, ht, cond_false, controlItemBody, if_neg hk]

/-! The same checks in the register view, on the frame in `IN` (R26). -/

theorem decodeMessage_keeps (s : State) (t : BitVec 3) (n : Nat) : DecodeFrame s (s.decodeMessage t n) :=
  putDecode_keeps s _

theorem raiseInvalid_decodedInvalid (s : State) (c : Cause) (hc : c ≠ .noError) :
    DecodedInvalid (s.raiseInvalid c) (causeCode c) :=
  ⟨beq_false_of_ne hc, rfl⟩

/-- Writing the tail of the input as the body makes `BODY` the bytes of `IN` after field2. The length bound is what lets
`BODY_LEN` hold their count. -/
theorem writeDecoded_decodedAs (s : State) (t : BitVec 3) (c q : Half) (hmax : s.inLen.toNat ≤ 8191) :
    DecodedAs s (s.writeDecoded t c q (frameTail s.inBytes)) t c q where
  dValid := rfl
  dCause := rfl
  msgType := rfl
  itemCode := rfl
  seqNum := rfl
  bodyLen := by
    rw [writeDecoded_bodyLen, frameTail_length, inBytes_length, BitVec.toNat_ofNat]
    omega
  body k hk := by rw [writeDecoded_bodyByte?, frameTail_inBytes_getElem?, if_pos hk]
  beyond k hk := by rw [writeDecoded_bodyByte?, frameTail_inBytes_getElem?, if_neg (Nat.not_lt.2 hk)]

theorem decodeMessage_framingError (s : State) (t : BitVec 3) {n : Nat} (h : n ≠ s.inLen.toNat ∨ s.inLen.toNat < 4) :
    DecodedInvalid (s.decodeMessage t n) 1 := by
  rw [← inBytes_length] at h
  rw [State.decodeMessage, messageFrame_framingError Config.codes t h]
  exact raiseInvalid_decodedInvalid s .framingError (by decide)

section AgreedLength

variable {s : State} {t : BitVec 3} (hmin : 4 ≤ s.inLen.toNat)
include hmin

theorem decodeMessage_unknownCode (ht : familyBit t = false) (hk : s.inField2 ∉ Config.codes.known) :
    DecodedInvalid (s.decodeMessage t s.inLen.toNat) 2 := by
  rw [State.inField2, ← field2_inBytes s hmin] at hk
  rw [← inBytes_length] at hmin ⊢
  rw [State.decodeMessage, messageFrame_unknownCode hmin ht hk]
  exact raiseInvalid_decodedInvalid s .unknownItemCode (by decide)

variable (hmax : s.inLen.toNat ≤ 8191)
include hmax

theorem decodeMessage_knownCode (ht : familyBit t = false) (hk : s.inField2 ∈ Config.codes.known) :
    DecodedAs s (s.decodeMessage t s.inLen.toNat) t s.inField2 0 := by
  rw [State.inField2, ← field2_inBytes s hmin] at hk ⊢
  rw [← inBytes_length] at hmin ⊢
  rw [State.decodeMessage, messageFrame_knownCode hmin ht hk]
  exact writeDecoded_decodedAs s t _ _ hmax

theorem decodeMessage_dataItem (ht : familyBit t = true) :
    DecodedAs s (s.decodeMessage t s.inLen.toNat) t Config.codes.noneCode s.inField2 := by
  rw [State.inField2, ← field2_inBytes s hmin]
  rw [← inBytes_length] at hmin ⊢
  rw [State.decodeMessage, messageFrame_dataItem Config.codes hmin ht]
  exact writeDecoded_decodedAs s t _ _ hmax

end AgreedLength

/-! The rows of the message types (R53, R54). -/

theorem controlItem_row {mk : Nat → Instr} {type : BitVec 3}
    (h : (mk, type) ∈ [(Instr.setControlItem, 0b000#3), (Instr.currentControlItem, 0b001#3),
      (Instr.controlItemRange, 0b010#3), (Instr.ack, 0b011#3)]) :
    mk = messageInstr type ∧ familyBit type = false := by
  simp only [List.mem_cons, Prod.mk.injEq, List.not_mem_nil, or_false] at h
  rcases h with ⟨rfl, rfl⟩ | ⟨rfl, rfl⟩ | ⟨rfl, rfl⟩ | ⟨rfl, rfl⟩ <;> exact ⟨rfl, rfl⟩

theorem dataItem_row {mk : Nat → Instr} {type : BitVec 3}
    (h : (mk, type) ∈ [(Instr.dataItem0, 0b100#3), (Instr.dataItem1, 0b101#3), (Instr.dataItem2, 0b110#3),
      (Instr.dataItem3, 0b111#3)]) :
    mk = messageInstr type ∧ familyBit type = true := by
  simp only [List.mem_cons, Prod.mk.injEq, List.not_mem_nil, or_false] at h
  rcases h with ⟨rfl, rfl⟩ | ⟨rfl, rfl⟩ | ⟨rfl, rfl⟩ | ⟨rfl, rfl⟩ <;> exact ⟨rfl, rfl⟩

theorem message_row {mk : Nat → Instr}
    (h : mk ∈ [Instr.setControlItem, Instr.currentControlItem, Instr.controlItemRange, Instr.ack, Instr.dataItem0,
      Instr.dataItem1, Instr.dataItem2, Instr.dataItem3]) : ∃ type, mk = messageInstr type := by
  simp only [List.mem_cons, List.not_mem_nil, or_false] at h
  rcases h with rfl | rfl | rfl | rfl | rfl | rfl | rfl | rfl
  exacts [⟨0b000#3, rfl⟩, ⟨0b001#3, rfl⟩, ⟨0b010#3, rfl⟩, ⟨0b011#3, rfl⟩, ⟨0b100#3, rfl⟩, ⟨0b101#3, rfl⟩,
    ⟨0b110#3, rfl⟩, ⟨0b111#3, rfl⟩]

/-- Settles O19: each row is the message of its number, and the item code decides between the two results. -/
theorem controlItemMessages : Obligations.ControlItemMessages := by
  intro mk type hrow
  obtain ⟨rfl, hfamily⟩ := controlItem_row hrow
  refine ⟨fun h hh => by rw [decodeHeader, hh], ?_⟩
  rintro s n rfl hmin hmax
  exact ⟨
    fun hk => ⟨_, exec_messageInstr .., decodeMessage_knownCode hmin hmax hfamily hk, decodeMessage_keeps ..⟩,
    fun hk => ⟨_, exec_messageInstr .., decodeMessage_unknownCode hmin hfamily hk, decodeMessage_keeps ..⟩⟩

/-- Settles O20: each row is the message of its number, and a data item makes no check of field2. -/
theorem dataItemMessages : Obligations.DataItemMessages := by
  intro mk type hrow
  obtain ⟨rfl, hfamily⟩ := dataItem_row hrow
  refine ⟨fun h hh => by rw [decodeHeader, hh], ?_⟩
  rintro s n rfl hmin hmax
  exact ⟨_, exec_messageInstr .., decodeMessage_dataItem hmin hmax hfamily, decodeMessage_keeps ..⟩

/-- Settles O21: the length checks come before the family is looked at, so they answer the same for every type. -/
theorem messageLengthChecks : Obligations.MessageLengthChecks := by
  intro mk hrow s n hlen
  obtain ⟨type, rfl⟩ := message_row hrow
  exact ⟨_, exec_messageInstr .., decodeMessage_framingError s type hlen, decodeMessage_keeps ..⟩

/-! `DECODE` as the message its header names. -/

theorem exec_decode_of_header (s : State) (h : 2 ≤ s.inLen.toNat) :
    exec .decode s = .next (s.decodeMessage (headerType s.inHeader) (headerLength s.inHeader)) := by
  rw [exec_decode_eq, State.decodeInput, decodeFrame_of_header _ _ ((inBytes_length s).symm ▸ h), headerWord_inBytes s h]
  rfl

/-- Settles O9: both sides decode the input under the type and the length its header declares. -/
theorem decodeRunsMessageType : Obligations.DecodeRunsMessageType := by
  intro s h
  rw [exec_decode_of_header s h, decodeHeader, exec_messageInstr]

/-- A frame that passes the length checks is decoded as a message of its own length. -/
theorem exec_decode_of_holdsFrame {s : State} (h : s.HoldsFrame) :
    exec .decode s = .next (s.decodeMessage (headerType s.inHeader) s.inLen.toNat) := by
  rw [exec_decode_of_header s (Nat.le_trans (by decide) h.enough), h.length]

theorem inLen_le_of_holdsFrame {s : State} (h : s.HoldsFrame) : s.inLen.toNat ≤ 8191 :=
  h.length ▸ headerLength_le s.inHeader

/-- Settles O22, by the family of the frame's type. -/
theorem decodeAcceptsFrames : Obligations.DecodeAcceptsFrames := by
  intro s h
  have hmax := inLen_le_of_holdsFrame h
  exact ⟨
    fun ht => ⟨_, exec_decode_of_holdsFrame h, decodeMessage_dataItem h.enough hmax ht, decodeMessage_keeps ..⟩,
    fun ht hk => ⟨_, exec_decode_of_holdsFrame h, decodeMessage_knownCode h.enough hmax ht hk, decodeMessage_keeps ..⟩⟩

/-- Settles O24: no header declares more than 8191 bytes, so the length check fails. -/
theorem overlongInputIsInvalid : Obligations.OverlongInputIsInvalid := by
  intro s hlen
  have hne : headerLength s.inHeader ≠ s.inLen.toNat := by
    have := headerLength_le s.inHeader
    omega
  exact ⟨_, exec_decode_of_header s (by omega), decodeMessage_framingError s _ (.inl hne), decodeMessage_keeps ..⟩

/-! The frame as header, field2 and the bytes after them (R51, R56, R59). -/

/-- A frame of at least four bytes is its three parts in order. -/
theorem frame_eq_fields {f : List Byte} (h : 4 ≤ f.length) :
    f = bytesOfHalf (headerWord f) ++ bytesOfHalf (field2 f) ++ frameTail f := by
  match f, h with
  | b0 :: b1 :: b2 :: b3 :: tail, _ => simp [headerWord, field2, frameTail, byteAt]

theorem headerWord_take (f : List Byte) {n : Nat} (h : 2 ≤ n) : headerWord (f.take n) = headerWord f := by
  have same : ∀ i < 2, byteAt (f.take n) i = byteAt f i := fun i hi => by
    rw [byteAt, byteAt, List.getD_eq_getElem?_getD, List.getD_eq_getElem?_getD, List.getElem?_take_of_lt (by omega)]
  rw [headerWord, headerWord, same 0 (by omega), same 1 (by omega)]

/-- Settles O25: a cut frame has lost its header, or it still declares the length it had before the cut. -/
theorem truncationIsInvalid : Obligations.TruncationIsInvalid := by
  intro codes f type code seq body hvalid k hk hkf
  obtain ⟨-, hdeclared, -⟩ := decodeFrame_valid hvalid
  have hcut : (f.take (f.length - k)).length = f.length - k := by simp
  by_cases hshort : f.length - k < 2
  · exact decodeFrame_short codes _ (hcut.symm ▸ hshort)
  · have hheader := Nat.le_of_not_lt hshort
    rw [decodeFrame_of_header codes _ (hcut.symm ▸ hheader), headerWord_take f hheader]
    exact messageFrame_framingError codes _ (.inl (by omega))

/-- The frame with the two bytes of field2 replaced (R102). -/
def replaceField2 (f : List Byte) (c0 c1 : Byte) : List Byte := f.take 2 ++ [c0, c1] ++ f.drop 4

/-- The replacement keeps the header and the length, and field2 is the new pair. -/
theorem replaceField2_fields {f : List Byte} (h : 4 ≤ f.length) (c0 c1 : Byte) :
    headerWord (replaceField2 f c0 c1) = headerWord f ∧ (replaceField2 f c0 c1).length = f.length ∧
      field2 (replaceField2 f c0 c1) = halfOfBytes c0 c1 := by
  match f, h with
  | b0 :: b1 :: b2 :: b3 :: tail, _ => exact ⟨rfl, rfl, rfl⟩

/-- Settles O26: the overwritten frame passes the length checks of the accepted one and fails the check of its code. -/
theorem unknownCodeIsInvalid : Obligations.UnknownCodeIsInvalid := by
  intro codes f type code seq body c0 c1 hvalid hfamily hunknown
  obtain ⟨hmin, hdeclared, rfl, -⟩ := decodeFrame_valid hvalid
  obtain ⟨hheader, hlength, hfield2⟩ := replaceField2_fields hmin c0 c1
  rw [← hlength] at hmin hdeclared
  show decodeFrame codes (replaceField2 f c0 c1) = _
  rw [decodeFrame_of_header codes _ (by omega), hheader, hdeclared]
  exact messageFrame_unknownCode hmin hfamily (hfield2.symm ▸ hunknown)

/-- A valid `DECODE` of `IN`: the frame passed the length checks, and `BODY` is its bytes after field2. -/
theorem decodeInput_valid {s : State} (h : s.decodeInput.dValid = true) :
    s.HoldsFrame ∧ s.decodeInput.bodyBytes = frameTail s.inBytes := by
  rw [State.decodeInput] at h ⊢
  cases hd : decodeFrame Config.codes s.inBytes with
  | invalid c =>
    rw [hd] at h
    rcases decodeFrame_invalid hd with rfl | rfl <;> cases h
  | valid t c q b =>
    obtain ⟨hmin, hdeclared, -, rfl, -⟩ := decodeFrame_valid hd
    have hmax := headerLength_le (headerWord s.inBytes)
    refine ⟨?_, writeDecoded_bodyBytes s t c q _ (by rw [frameTail_length]; omega)⟩
    rw [inBytes_length] at hmin hdeclared
    rw [headerWord_inBytes s (by omega)] at hdeclared
    exact ⟨hmin, hdeclared⟩

/-- Settles O27: the input is the three parts of its frame, the body is the third of them, and `BODY_LEN` its length. -/
theorem validFrameKeepsEveryByte : Obligations.ValidFrameKeepsEveryByte := by
  intro s t he hvalid
  rw [exec_decode_eq] at he
  cases he
  obtain ⟨hframe, hbody⟩ := decodeInput_valid hvalid
  have hmin := hframe.enough
  have hmax := inLen_le_of_holdsFrame hframe
  have hlen : s.decodeInput.bodyLen.toNat = s.inLen.toNat - 4 := by
    rw [← bodyBytes_length, hbody, frameTail_length, inBytes_length]
  have hparts : s.inBytes = bytesOfHalf s.inHeader ++ bytesOfHalf s.inField2 ++ frameTail s.inBytes := by
    rw [State.inHeader, State.inField2, ← headerWord_inBytes s (by omega), ← field2_inBytes s hmin]
    exact frame_eq_fields ((inBytes_length s).symm ▸ hmin)
  exact ⟨hmin, hmax, hlen, by omega, hbody.symm ▸ hparts⟩

/-! Which actions of the host a step takes (R194, R195, R200). -/

/-- An operation in progress, or none, always runs to a next state (R96, R122). -/
theorem runInFlight_answers (s : State) : ∃ t, runInFlight s = .next t := by
  cases hc : s.inFlight with
  | none => exact ⟨s, by rw [runInFlight, hc]⟩
  | some c =>
    obtain ⟨t, ht, -⟩ := exec_answers s (decodeCommand c.cmd c.bitWidth)
    exact ⟨t.complete, by simp only [runInFlight, hc, ht]⟩

theorem hostAct_issue_idle {s : State} (h : s.busy = false) (c : Command) :
    hostAct s (.issue c) = runInFlight (s.accept c) := by
  rw [hostAct, h, cond_false]

theorem hostAct_present_idle {s : State} (h : s.busy = false) (c : Command) :
    hostAct s (.present c) = .next (s.accept c) := by
  rw [hostAct, h, cond_false]

theorem hostAct_allowed_answers (s : State) : ∀ a : HostAction, Allowed s a → ∃ t, hostAct s a = .next t
  | .issue c, h => hostAct_issue_idle h c ▸ runInFlight_answers _
  | .present c, h => ⟨_, hostAct_present_idle h c⟩
  | .wait, _ => runInFlight_answers _
  | .writeByte a b, h => ⟨_, hostAct_writeByte_idle h a b⟩
  | .writeLen n, h => ⟨_, hostAct_writeLen_idle h n⟩
  | .load _, ⟨hidle, hlen⟩ => ⟨_, hostAct_load_idle hidle hlen⟩
  | .read _, _ => ⟨_, rfl⟩
  | .reset, _ => ⟨_, rfl⟩

theorem allowed_of_hostAct_next {s t : State} {a : HostAction} (h : hostAct s a = .next t) : Allowed s a := by
  rcases hostAct_next h with ⟨_, rfl, hidle, _⟩ | ⟨_, rfl, hidle, _⟩ | ⟨rfl, _⟩ | ⟨_, _, rfl, hidle, _⟩ |
    ⟨_, rfl, hidle, _⟩ | ⟨_, rfl, hidle, hlen, _⟩ | ⟨_, rfl, _⟩ | ⟨rfl, _⟩
  exacts [hidle, hidle, trivial, hidle, hidle, ⟨hidle, hlen⟩, trivial, trivial]

/-- Which actions are allowed does not depend on what the host does after them. -/
theorem allowed_withScript (s : State) (l : List HostAction) (a : HostAction) :
    Allowed (s.withScript l) a ↔ Allowed s a := by
  cases a <;> exact Iff.rfl

/-- Settles O13: a step is the host's next action, and an action has a next state exactly where it is allowed, because
every instruction answers one. -/
theorem stepGoesOnForAllowedActions : Obligations.StepGoesOnForAllowedActions := by
  intro s
  rw [step_eq]
  refine Iff.trans ⟨?_, hostAct_allowed_answers _ _⟩ (allowed_withScript s s.script.tail s.nextAction)
  rintro ⟨t, ht⟩
  exact allowed_of_hostAct_next ht

end Sys2Proof.Machine

/-! PROOFS of the statements about the sample unpacker: a sample word by the bytes of its chunk and back, what `EXTRACT`
and each sample width answer, and that the tail which fills no chunk plays no part. -/

namespace Sys2Proof.Machine

/-! Little-endian values, read byte by byte (R8, R32). -/

theorem append_toNat {n m : Nat} (hi : BitVec n) (lo : BitVec m) : (hi ++ lo).toNat = lo.toNat + 2 ^ m * hi.toNat := by
  rw [BitVec.toNat_append, ← Nat.shiftLeft_add_eq_or_of_lt lo.isLt, Nat.shiftLeft_eq, Nat.mul_comm, Nat.add_comm]

/-- Digit `j` to the base 256 is byte `j`. -/
theorem leNat_div_pow_mod (bs : List Byte) {j : Nat} (hj : j < bs.length) : leNat bs / 256 ^ j % 256 = bs[j].toNat := by
  induction bs generalizing j with
  | nil => simp at hj
  | cons b bs ih =>
    have hb : b.toNat < 256 := b.isLt
    cases j with
    | zero => simp only [leNat, pow_zero, List.getElem_cons_zero]; omega
    | succ j =>
      have rest : leNat (b :: bs) / 256 = leNat bs := by simp only [leNat]; omega
      rw [Nat.pow_succ', ← Nat.div_div_eq_div_mul, rest, ih (Nat.lt_of_succ_lt_succ hj), List.getElem_cons_succ]

/-- At most four bytes fit a word, so that their value is not cut (R114). -/
theorem leNat_lt_word {bs : List Byte} (h : bs.length ≤ 4) : leNat bs < 2 ^ 32 :=
  calc leNat bs < 256 ^ bs.length := leNat_lt bs
    _ ≤ 256 ^ 4 := Nat.pow_le_pow_right (by decide) h
    _ = 2 ^ 32 := by decide

/-- The low bytes of the word of a byte sequence are that sequence (R124). -/
theorem lowBytes_ofNat_leNat {bs : List Byte} (h : bs.length ≤ 4) :
    lowBytes bs.length (BitVec.ofNat 32 (leNat bs)) = bs := by
  refine List.ext_getElem (by simp [lowBytes]) fun j _ hj => BitVec.eq_of_toNat_eq ?_
  simp only [lowBytes, List.getElem_map, List.getElem_range, BitVec.extractLsb'_toNat, BitVec.toNat_ofNat,
    Nat.mod_eq_of_lt (leNat_lt_word h), Nat.shiftRight_eq_div_pow]
  rw [pow_mul, ← leNat_div_pow_mod bs hj]
  rfl

/-! Chunks of a payload (R113, R115). -/

/-- The first `k` chunks, one after the other, are the first `k·w` bytes: no overlap and no gap. -/
theorem flatten_chunks (w : Nat) (p : List Byte) (k : Nat) :
    ((List.range k).map (chunkAt w p)).flatten = p.take (k * w) := by
  induction k with
  | zero => simp
  | succ k ih => simp [List.range_succ, ih, Nat.succ_mul, List.take_add, chunkAt]

/-- Bytes after the whole chunks of `p` are in none of them. -/
theorem chunkAt_append (w : Nat) (p q : List Byte) {i : Nat} (h : i < p.length / w) :
    chunkAt w (p ++ q) i = chunkAt w p i := by
  have hlen := chunkAt_length w p h
  simp only [chunkAt, List.length_take, List.length_drop] at hlen
  rw [chunkAt, chunkAt, List.drop_append, List.take_append_of_le_length (by rw [List.length_drop]; omega)]

/-- A whole chunk by its bytes, where `b` gives the bytes of the payload. -/
theorem chunkAt_eq_map {w : Nat} {p : List Byte} {b : Nat → Byte} (hb : ∀ k, k < p.length → p[k]? = some (b k))
    {i : Nat} (h : i < p.length / w) : chunkAt w p i = (List.range w).map fun j => b (i * w + j) := by
  have hlen := chunkAt_length w p h
  refine List.ext_getElem (by simp [hlen]) fun j hj _ => ?_
  have whole : (i + 1) * w ≤ p.length := (Nat.mul_le_mul_right w h).trans (Nat.div_mul_le_self _ _)
  have inside : i * w + j < p.length := by rw [Nat.add_mul] at whole; omega
  rw [List.getElem_map, List.getElem_range, ← Option.some_inj, ← List.getElem?_eq_getElem, chunkAt_getElem?,
    if_pos (hlen ▸ hj), hb _ inside]

/-! Sample words (R114). -/

theorem sampleAt_toNat {w : Nat} (hw : w ≤ 4) (p : List Byte) {i : Nat} (h : i < p.length / w) :
    (sampleAt w p i).toNat = leNat (chunkAt w p i) := by
  rw [sampleAt, BitVec.toNat_ofNat, Nat.mod_eq_of_lt (leNat_lt_word ((chunkAt_length w p h).trans_le hw))]

theorem lowBytes_sampleAt {w : Nat} (hw : w ≤ 4) (p : List Byte) {i : Nat} (h : i < p.length / w) :
    lowBytes w (sampleAt w p i) = chunkAt w p i := by
  have hlen := chunkAt_length w p h
  have := lowBytes_ofNat_leNat (hlen.trans_le hw)
  rwa [hlen] at this

theorem word8_toNat (b : Nat → Byte) (i : Nat) : (word8 b i).toNat = (b i).toNat := append_toNat 0#24 (b i)

theorem word16_toNat (b : Nat → Byte) (i : Nat) :
    (word16 b i).toNat = (b (2 * i)).toNat + 256 * (b (2 * i + 1)).toNat :=
  (append_toNat 0#16 _).trans (append_toNat (b (2 * i + 1)) (b (2 * i)))

theorem word24_toNat (b : Nat → Byte) (i : Nat) :
    (word24 b i).toNat = (b (3 * i)).toNat + 256 * ((b (3 * i + 1)).toNat + 256 * (b (3 * i + 2)).toNat) :=
  calc (word24 b i).toNat
    _ = (b (3 * i + 2) ++ (b (3 * i + 1) ++ b (3 * i))).toNat := append_toNat 0#8 _
    _ = (b (3 * i + 1) ++ b (3 * i)).toNat + 2 ^ 16 * (b (3 * i + 2)).toNat := append_toNat _ _
    _ = _ := by rw [append_toNat]; omega

theorem word32_toNat (b : Nat → Byte) (i : Nat) :
    (word32 b i).toNat = (b (4 * i)).toNat + 256 * ((b (4 * i + 1)).toNat +
      256 * ((b (4 * i + 2)).toNat + 256 * (b (4 * i + 3)).toNat)) :=
  calc (word32 b i).toNat
    _ = (b (4 * i + 2) ++ (b (4 * i + 1) ++ b (4 * i))).toNat + 2 ^ 24 * (b (4 * i + 3)).toNat := append_toNat _ _
    _ = (b (4 * i + 1) ++ b (4 * i)).toNat + 2 ^ 16 * (b (4 * i + 2)).toNat + 2 ^ 24 * (b (4 * i + 3)).toNat :=
      congrArg (· + _) (append_toNat _ _)
    _ = _ := by rw [append_toNat]; omega

/-- The table of R66 is the little-endian value of the chunk's bytes. -/
theorem sampleWord_eq_leNat {w : Nat} (h1 : 1 ≤ w) (h4 : w ≤ 4) (b : Nat → Byte) (i : Nat) :
    sampleWord w b i = BitVec.ofNat 32 (leNat ((List.range w).map fun j => b (i * w + j))) := by
  have fits := leNat_lt_word (bs := (List.range w).map fun j => b (i * w + j)) (by simpa using h4)
  refine BitVec.eq_of_toNat_eq ?_
  rw [BitVec.toNat_ofNat, Nat.mod_eq_of_lt fits]
  interval_cases w <;>
    simp [sampleWord, word8_toNat, word16_toNat, word24_toNat, word32_toNat, List.range_succ, leNat, Nat.mul_comm i]

theorem sampleAt_eq_sampleWord {w : Nat} (h1 : 1 ≤ w) (h4 : w ≤ 4) {p : List Byte} {b : Nat → Byte}
    (hb : ∀ k, k < p.length → p[k]? = some (b k)) {i : Nat} (h : i < p.length / w) :
    sampleAt w p i = sampleWord w b i := by
  rw [sampleAt, chunkAt_eq_map hb h, sampleWord_eq_leNat h1 h4]

/-- A word of four bytes is negative exactly when its last byte has the top bit set (R120). -/
theorem word32_toInt_neg_iff (b : Nat → Byte) (i : Nat) : (word32 b i).toInt < 0 ↔ 0x80 ≤ (b (4 * i + 3)).toNat := by
  rw [BitVec.toInt_neg_iff, word32_toNat]
  have := (b (4 * i)).isLt
  have := (b (4 * i + 1)).isLt
  have := (b (4 * i + 2)).isLt
  omega

/-! The samples of a payload. -/

theorem mem_unpack {w : Nat} {p : List Byte} {x : Word} (h : x ∈ unpack w p) :
    ∃ i, i < p.length / w ∧ x = sampleAt w p i := by
  obtain ⟨i, hi, rfl⟩ := List.mem_map.1 h
  exact ⟨i, List.mem_range.1 hi, rfl⟩

/-- A sample of `w` bytes is below `256^w`: the bytes of its word above them are zero (R114, R124). -/
theorem toNat_lt_of_mem_unpack {w : Nat} (hw : w ≤ 4) {p : List Byte} {x : Word} (h : x ∈ unpack w p) :
    x.toNat < 256 ^ w := by
  obtain ⟨i, hi, rfl⟩ := mem_unpack h
  calc (sampleAt w p i).toNat = leNat (chunkAt w p i) := sampleAt_toNat hw p hi
    _ < 256 ^ (chunkAt w p i).length := leNat_lt _
    _ = 256 ^ w := by rw [chunkAt_length w p hi]

/-- Below 32 bits nothing reaches the sign bit (R114). -/
theorem toInt_range_of_mem_unpack {w : Nat} (hw : w ≤ 3) {p : List Byte} {x : Word} (h : x ∈ unpack w p) :
    0 ≤ x.toInt ∧ x.toInt ≤ 256 ^ w - 1 := by
  have hx : x.toNat < 256 ^ w := toNat_lt_of_mem_unpack (by omega) h
  have small : (256 : Nat) ^ w ≤ 256 ^ 3 := Nat.pow_le_pow_right (by decide) hw
  rw [BitVec.toInt_eq_toNat_of_lt (by omega)]
  exact ⟨Int.natCast_nonneg _, by have : (x.toNat : Int) < (256 : Int) ^ w := mod_cast hx; omega⟩

theorem unpack_short {w : Nat} {q : List Byte} (h : q.length < w) : unpack w q = [] := by
  rw [unpack, Nat.div_eq_of_lt h]
  rfl

/-- Fewer bytes than a chunk, after whole chunks, add no sample (R115). -/
theorem unpack_append_tail {w : Nat} {p q : List Byte} (hp : w ∣ p.length) (hq : q.length < w) :
    unpack w (p ++ q) = unpack w p := by
  have count : (p ++ q).length / w = p.length / w := by
    rw [List.length_append, Nat.add_div_of_dvd_right hp, Nat.div_eq_of_lt hq, Nat.add_zero]
  rw [unpack, unpack, count]
  refine List.map_congr_left fun i hi => ?_
  rw [sampleAt, sampleAt, chunkAt_append w p q (List.mem_range.1 hi)]

/-- The samples written back as their low bytes are the whole chunks in order (R124). -/
theorem flatten_lowBytes_unpack {w : Nat} (hw : w ≤ 4) (p : List Byte) :
    ((unpack w p).map (lowBytes w)).flatten = p.take (p.length / w * w) := by
  rw [← flatten_chunks, unpack, List.map_map]
  exact congrArg List.flatten (List.map_congr_left fun i hi => lowBytes_sampleAt hw p (List.mem_range.1 hi))

/-! The width check (R111, R112). -/

theorem extractPayload_supported {w : Nat} (h1 : 1 ≤ w) (h4 : w ≤ 4) (p : List Byte) :
    extractPayload (8 * w) p = .ok (unpack w p) := by
  interval_cases w <;> rfl

theorem extractPayload_unsupported {n : Nat} (h : n ≠ 8 ∧ n ≠ 16 ∧ n ≠ 24 ∧ n ≠ 32) (p : List Byte) :
    extractPayload n p = .fail .unsupportedSampleWidth := by
  rw [extractPayload, byteWidth?_none.2 h]

/-- Settles O32: an extraction at a supported width is the samples of its whole chunks. -/
theorem tailIsDropped : Obligations.TailIsDropped := by
  intro w p q h1 h4 hp hq
  simp only [extractPayload_supported h1 h4, unpack_append_tail hp hq, unpack_short hq, and_self]

/-- Settles O34: a sample's low bytes are its chunk, and the chunks follow each other without a gap. -/
theorem samplesReassemble : Obligations.SamplesReassemble := by
  intro w p samples h1 h4 h
  rw [extractPayload_supported h1 h4] at h
  cases h
  exact ⟨unpack_length w p, flatten_lowBytes_unpack h4 p, fun _ hx => toNat_lt_of_mem_unpack h4 hx⟩

/-! The extraction in the register view (R26, R110). -/

/-- Writing the samples of a payload, whose bytes `b` gives, makes `SAMPLES` their words. The length bound is what lets
`SAMPLE_COUNT` hold their count. -/
theorem writeSamples_extractedAs (s : State) {w : Nat} (h1 : 1 ≤ w) (h4 : w ≤ 4) {p : List Byte} {b : Nat → Byte}
    (hb : ∀ k, k < p.length → p[k]? = some (b k)) (hlen : p.length ≤ 65535) :
    ExtractedAs (s.writeSamples (unpack w p)) (p.length / w) (sampleWord w b) where
  xOk := rfl
  xCause := rfl
  sampleCount := by
    have := (unpack_length_le w p).trans hlen
    rw [writeSamples_sampleCount, BitVec.toNat_ofNat, Nat.mod_eq_of_lt (by omega), unpack_length]
  samples i hi := by rw [writeSamples_sample?, unpack_getElem?, if_pos hi, sampleAt_eq_sampleWord h1 h4 hb hi]
  beyond i hi := by rw [writeSamples_sample?, unpack_getElem?, if_neg (Nat.not_lt.2 hi)]

theorem writeSamples_keeps (s : State) (words : List Word) : ExtractFrame s (s.writeSamples words) :=
  putExtract_keeps s (.ok words)

theorem raiseFail_extractStatus (s : State) {c : Cause} (hc : c ≠ .noError) :
    ExtractStatus (s.raiseFail c) (causeCode c) :=
  ⟨beq_false_of_ne hc, rfl⟩

/-- The state with the samples of `IN` at byte width `w` as the unpacker results. -/
def State.unpackInput (s : State) (w : Nat) : State := s.writeSamples (unpack w s.inBytes)

theorem unpackInput_extractedAs (s : State) {w : Nat} (h1 : 1 ≤ w) (h4 : w ≤ 4) :
    ExtractedAs (s.unpackInput w) (s.inLen.toNat / w) (sampleWord w s.inByte) := by
  rw [← inBytes_length]
  refine writeSamples_extractedAs s h1 h4 (fun k hk => ?_) (inBytes_length_le s)
  rw [inBytes_getElem?, if_pos (by simpa using hk)]

theorem unpackInput_keeps (s : State) (w : Nat) : ExtractFrame s (s.unpackInput w) := writeSamples_keeps s _

theorem exec_extract_supported (s : State) {w : Nat} (h1 : 1 ≤ w) (h4 : w ≤ 4) :
    exec (.extract (8 * w)) s = .next (s.unpackInput w) := by
  rw [exec_extract_eq, extractPayload_supported h1 h4]
  rfl

theorem exec_extract_unsupported (s : State) {n : Nat} (h : n ≠ 8 ∧ n ≠ 16 ∧ n ≠ 24 ∧ n ≠ 32) :
    exec (.extract n) s = .next (s.raiseFail .unsupportedSampleWidth) := by
  rw [exec_extract_eq, extractPayload_unsupported h]
  rfl

/-- Settles O30: at a supported operand `EXTRACT` writes the samples of `IN`. -/
theorem extractSupportedWidths : Obligations.ExtractSupportedWidths := fun s w h1 h4 =>
  ⟨s.unpackInput w, exec_extract_supported s h1 h4, unpackInput_extractedAs s h1 h4, unpackInput_keeps s w⟩

/-- Settles O31: the width check fails before the payload is looked at. -/
theorem extractUnsupportedWidths : Obligations.ExtractUnsupportedWidths := fun s _ h8 h16 h24 h32 =>
  ⟨s.raiseFail .unsupportedSampleWidth, exec_extract_unsupported s ⟨h8, h16, h24, h32⟩,
    raiseFail_extractStatus s (by decide), putExtract_keeps s (.fail .unsupportedSampleWidth)⟩

/-- Settles O33: the empty payload has no whole chunk at a supported width, and the width check does not read it. -/
theorem emptyPayload : Obligations.EmptyPayload := by
  intro s n hempty
  refine ⟨fun hn => ?_, fun hn => ?_⟩
  · obtain ⟨w, h1, h4, rfl⟩ : ∃ w, 1 ≤ w ∧ w ≤ 4 ∧ n = 8 * w := ⟨n / 8, by omega, by omega, by omega⟩
    obtain ⟨t, ht, results, frame⟩ := extractSupportedWidths s w h1 h4
    have hcount : t.sampleCount.toNat = 0 := by rw [results.sampleCount, hempty]; exact Nat.zero_div w
    exact ⟨t, ht, results.xOk, results.xCause, BitVec.eq_of_toNat_eq hcount, frame⟩
  · obtain ⟨h8, h16, h24, h32⟩ : n ≠ 8 ∧ n ≠ 16 ∧ n ≠ 24 ∧ n ≠ 32 := by simpa only [not_or] using hn
    exact extractUnsupportedWidths s n h8 h16 h24 h32

/-! The rows of the sample widths (R117 to R120). -/

theorem exec_extract8_eq (s : State) : exec .extract8 s = .next (s.unpackInput 1) := rfl

theorem exec_extract16_eq (s : State) : exec .extract16 s = .next (s.unpackInput 2) := rfl

theorem exec_extract24_eq (s : State) : exec .extract24 s = .next (s.unpackInput 3) := rfl

theorem exec_extract32_eq (s : State) : exec .extract32 s = .next (s.unpackInput 4) := rfl

/-- A sample below 32 bits is an unsigned value of its bytes. -/
theorem unpackInput_sample_range {s : State} {w : Nat} (hw : w ≤ 3) (i : Nat) (x : Word)
    (h : (s.unpackInput w).sample? i = some x) : 0 ≤ x.toInt ∧ x.toInt ≤ 256 ^ w - 1 := by
  rw [State.unpackInput, writeSamples_sample?] at h
  exact toInt_range_of_mem_unpack hw (List.mem_of_getElem? h)

/-- A sample of 32 bits is the word of its four bytes. -/
theorem unpackInput_sample_word32 {s : State} {i : Nat} {x : Word} (h : (s.unpackInput 4).sample? i = some x) :
    x = word32 s.inByte i := by
  have results := unpackInput_extractedAs s (w := 4) (by decide) (by decide)
  rcases Nat.lt_or_ge i (s.inLen.toNat / 4) with hi | hi
  · exact Option.some_inj.1 (h.symm.trans (results.samples i hi))
  · rw [results.beyond i hi] at h
    cases h

/-- Settles O29: each row writes the samples of `IN` at its own byte width; only four bytes reach the sign bit. -/
theorem sampleWidths : Obligations.SampleWidths := by
  intro s
  have results8 := unpackInput_extractedAs s (w := 1) (by decide) (by decide)
  rw [Nat.div_one] at results8
  refine ⟨⟨rfl, _, exec_extract8_eq s, results8, unpackInput_keeps s 1, unpackInput_sample_range (by decide)⟩,
    ⟨rfl, _, exec_extract16_eq s, unpackInput_extractedAs s (by decide) (by decide), unpackInput_keeps s 2,
      unpackInput_sample_range (by decide)⟩,
    ⟨rfl, _, exec_extract24_eq s, unpackInput_extractedAs s (by decide) (by decide), unpackInput_keeps s 3,
      unpackInput_sample_range (by decide)⟩,
    ⟨rfl, _, exec_extract32_eq s, unpackInput_extractedAs s (by decide) (by decide), unpackInput_keeps s 4,
      fun i x h => ?_⟩⟩
  rw [unpackInput_sample_word32 h]
  exact ⟨BitVec.le_toInt _, Int.le_sub_one_of_lt BitVec.toInt_lt, word32_toInt_neg_iff s.inByte i⟩

end Sys2Proof.Machine

/-! PROOFS of the statements about `STREAM`, `CFGW` and the host's commands: how a command comes to run and complete,
what `STREAM` writes on a data-item frame, and that nothing else emits a sink event. -/

namespace Sys2Proof.Machine

/-! A command comes to run (R135). -/

theorem step_of_script {s : State} {a : HostAction} {l : List HostAction} (h : s.script = a :: l) :
    step s = hostAct (s.withScript l) a := by
  rw [step_eq, h, List.tail_cons, List.headD_cons]

/-- The operation in progress runs to the completion of its instruction's next state. -/
theorem runInFlight_of_exec {s t : State} {c : Command} (hc : s.inFlight = some c)
    (h : exec (decodeCommand c.cmd c.bitWidth) s = .next t) : runInFlight s = .next t.complete := by
  simp only [runInFlight, hc, h]

/-- The bytes of a command pair decode to the instruction the pair selects, and to no other (R63). -/
theorem eq_decodeCommand {c : Command} {i : Instr} (h : decode .command (commandBytes c.cmd c.bitWidth) = .ok (i, [])) :
    i = decodeCommand c.cmd c.bitWidth := by
  have layout := decode_commandBytes c.cmd c.bitWidth []
  rw [List.append_nil, h] at layout
  cases layout
  rfl

/-- Settles O8: issuing a command and waiting for it both run the operation in progress, whose instruction is the one
its pair selects; every instruction answers a next state, and it is completed. -/
theorem stepRunsDecodedInstruction : Obligations.StepRunsDecodedInstruction := by
  refine ⟨fun s c script i hidle hscript hdecode _ => ?_, fun s c script i hflight hscript hdecode _ => ?_⟩
  · obtain rfl := eq_decodeCommand hdecode
    obtain ⟨t, ht, -⟩ := exec_answers ((s.withScript script).accept c) (decodeCommand c.cmd c.bitWidth)
    rw [step_of_script hscript, hostAct_issue_idle (s := s.withScript script) hidle, ht]
    exact runInFlight_of_exec (accept_inFlight ..) ht
  · obtain rfl := eq_decodeCommand hdecode
    obtain ⟨t, ht, -⟩ := exec_answers (s.withScript script).lowerPulses (decodeCommand c.cmd c.bitWidth)
    rw [step_of_script hscript, ht]
    exact runInFlight_of_exec hflight ht

/-- The host's wait finds the state in which the command was accepted: the pulses are low already. -/
theorem step_accept_wait (s : State) (c : Command) (l : List HostAction) :
    step ((s.withScript (.wait :: l)).accept c) = runInFlight ((s.withScript l).accept c) := rfl

/-- Settles O11: both ways run the operation in progress of the same accepted state. -/
theorem presentThenWaitIsIssue : Obligations.PresentThenWaitIsIssue := by
  intro s u c script hidle hstep
  rw [step_withScript_cons, hostAct_present_idle (s := s.withScript (.wait :: script)) hidle] at hstep
  cases hstep
  rw [step_accept_wait, step_withScript_cons, hostAct_issue_idle (s := s.withScript script) hidle]

/-! `CFGW` (R133). -/

/-- Settles O38: an operand of 16 bits is stored as it is, and the update writes that one register. -/
theorem cfgwStoresWidth : Obligations.CfgwStoresWidth := fun s n hn =>
  ⟨_, exec_cfgw_eq n s, toNat_ofNat_of_bitWidthFits ((bitWidthFits_iff n).2 hn), .of_fields, .of_fields, .of_fields,
    ⟨rfl, rfl⟩⟩

/-! Results, read from a later state that kept them. -/

theorem DecodedAs.of_kept {s t u : State} {type : BitVec 3} {code seq : Half} (h : DecodedAs s t type code seq)
    (k : DecoderKept t u) : DecodedAs s u type code seq := by
  obtain ⟨dValid, dCause, msgType, itemCode, seqNum, bodyLen, body, beyond⟩ := h
  constructor <;> simpa only [k.dValid, k.dCause, k.msgType, k.itemCode, k.seqNum, k.bodyByte, k.bodyLen]

theorem ExtractedAs.of_kept {t u : State} {n : Nat} {word : Nat → Word} (h : ExtractedAs t n word)
    (k : UnpackerKept t u) : ExtractedAs u n word := by
  obtain ⟨xOk, xCause, sampleCount, samples, beyond⟩ := h
  constructor <;> simpa only [k.xOk, k.xCause, k.sampleCount, k.sample]

/-- After a successful extraction the words of `SAMPLES` are the samples: none of them reads as a free value (R114). -/
theorem ExtractedAs.sampleWords_eq {t : State} {n : Nat} {word : Nat → Word} (h : ExtractedAs t n word) :
    t.sampleWords = (List.range n).map word := by
  rw [State.sampleWords, h.sampleCount]
  refine List.map_congr_left fun i hi => ?_
  rw [h.samples i (List.mem_range.1 hi), Option.getD_some]

/-! `STREAM` of a data-item frame (R132). -/

/-- The state with the samples of `BODY` at byte width `w` as the unpacker results, before their sink event. -/
def State.unpackBody (s : State) (w : Nat) : State := s.writeSamples (unpack w s.bodyBytes)

/-- Step 2 of `STREAM`: a valid data-item frame at a supported width is unpacked and emitted. -/
theorem streamSecond_supported {s : State} {w : Nat} (valid : s.dValid = true) (family : familyBit s.msgType = true)
    (h1 : 1 ≤ w) (h4 : w ≤ 4) (width : s.sampleWidthCfg.toNat = 8 * w) :
    s.streamSecond = (s.unpackBody w).emitSink := by
  rw [State.streamSecond, valid, family, State.extractBody, width, extractPayload_supported h1 h4]
  rfl

/-- `DECODE` of a data-item frame that passes the length checks, as the first step of `STREAM` (R80, R132). -/
theorem decodeInput_dataItem {s : State} (h : s.HoldsFrame) (ht : familyBit (headerType s.inHeader) = true) :
    DecodedAs s s.decodeInput (headerType s.inHeader) Config.codes.noneCode s.inField2 := by
  obtain ⟨d, hd, results, -⟩ := (decodeAcceptsFrames s h).1 ht
  rw [exec_decode_eq] at hd
  cases hd
  exact results

/-- After a valid decode the samples of `BODY` are the words of the input's bytes after field2. -/
theorem unpackBody_decodeInput_extractedAs {s : State} (valid : s.decodeInput.dValid = true) {w : Nat} (h1 : 1 ≤ w)
    (h4 : w ≤ 4) :
    ExtractedAs (s.decodeInput.unpackBody w) ((s.inLen.toNat - 4) / w) (sampleWord w fun a => s.inByte (4 + a)) := by
  obtain ⟨-, hbody⟩ := decodeInput_valid valid
  have hlen : (frameTail s.inBytes).length = s.inLen.toNat - 4 := by rw [frameTail_length, inBytes_length]
  rw [State.unpackBody, hbody, ← hlen]
  refine writeSamples_extractedAs _ h1 h4 (fun k hk => ?_) ?_
  · rw [frameTail_inBytes_getElem?, if_pos (hlen ▸ hk)]
  · have := s.inLen.isLt
    omega

/-- Settles O35: the decode gives the frame's results and leaves `BODY` its tail; the second step unpacks it, and the
event reads `SEQ_NUM` and `SAMPLES` as the two steps have written them. -/
theorem streamDataItem : Obligations.StreamDataItem := by
  intro s w hframe hfamily h1 h4 hwidth
  have decodeKept : DecodeFrame s s.decodeInput := putDecode_keeps s _
  have streamKept := streamSecond_keeps s.decodeInput
  have decoded := decodeInput_dataItem hframe hfamily
  have extracted := unpackBody_decodeInput_extractedAs decoded.dValid h1 h4
  have emitted : s.decodeInput.streamSecond = (s.decodeInput.unpackBody w).emitSink :=
    streamSecond_supported decoded.dValid (decoded.msgType ▸ hfamily) h1 h4 (decodeKept.widthCfg ▸ hwidth)
  refine ⟨_, exec_stream_eq s, decoded.of_kept streamKept.decoder, ?_, ?_, ?_,
    decodeKept.host.trans streamKept.host, streamKept.widthCfg.trans decodeKept.widthCfg⟩
  · rw [emitted]
    exact extracted.of_kept .of_fields
  · rw [emitted, emitSink_sinkValid]
  · have log : (s.decodeInput.unpackBody w).sinkLog = s.sinkLog := decodeKept.sink.sinkLog
    have seq : (s.decodeInput.unpackBody w).seqNum = s.inField2 := decoded.seqNum
    rw [emitted, emitSink_sinkLog, log, seq, extracted.sampleWords_eq, List.map_map]
    rfl

/-! Where a sink event comes from (R134). -/

/-- One event was added to the history `log`: it carries `SEQ_NUM` and the signed samples as `t` holds them, and `t`
holds a valid data-item frame and a successful extraction. -/
structure Emitted (log : List SinkEvent) (t : State) : Prop where
  sinkLog : t.sinkLog = log ++ [{ sequenceNumber := t.seqNum, samples := t.sampleWords.map BitVec.toInt }]
  sinkValid : t.sinkValid = true
  dValid : t.dValid = true
  family : familyBit t.msgType = true
  xOk : t.xOk = true

/-- Completion touches nothing an event speaks of. -/
theorem Emitted.complete {log : List SinkEvent} {t : State} (h : Emitted log t) : Emitted log t.complete :=
  ⟨h.sinkLog, h.sinkValid, h.dValid, h.family, h.xOk⟩

/-- Only the branch of a valid data-item frame at a supported width emits, and it emits once. -/
theorem streamSecond_sink (s : State) : s.streamSecond.sinkLog = s.sinkLog ∨ Emitted s.sinkLog s.streamSecond := by
  rcases streamSecond_cases s with ⟨valid, family, w, _, e⟩ | ⟨_, _, _, e⟩ | ⟨_, e⟩ <;> rw [e]
  · exact .inr ⟨rfl, rfl, valid, family, rfl⟩
  · exact .inl rfl
  · exact .inl rfl

theorem exec_sink {i : Instr} {s t : State} (h : exec i s = .next t) :
    t.sinkLog = s.sinkLog ∨ (i = .stream ∧ Emitted s.sinkLog t) := by
  by_cases kept : t.sinkLog = s.sinkLog
  · exact .inl kept
  · obtain ⟨-, -, -, onlyStream⟩ := writersOfFlagsAndWidth i s t h
    obtain rfl := onlyStream kept
    rw [exec_stream_eq] at h
    cases h
    have log : s.decodeInput.sinkLog = s.sinkLog := (putDecode_keeps s _).sink.sinkLog
    have emits := (streamSecond_sink s.decodeInput).resolve_left (log ▸ kept)
    exact .inr ⟨rfl, log ▸ emits⟩

/-- The command `c` was a `STREAM` that emitted its event and has completed. -/
structure StreamEmitted (c : Command) (log : List SinkEvent) (t : State) : Prop where
  command : decodeCommand c.cmd c.bitWidth = .stream
  event : Emitted log t
  done : t.done = true
  idle : t.busy = false

theorem runInFlight_sink {s t : State} (h : runInFlight s = .next t) :
    t.sinkLog = s.sinkLog ∨ ∃ c, s.inFlight = some c ∧ StreamEmitted c s.sinkLog t := by
  rcases runInFlight_next h with ⟨_, rfl⟩ | ⟨c, u, hc, hu, rfl⟩
  · exact .inl rfl
  · rcases exec_sink hu with kept | ⟨command, event⟩
    · exact .inl kept
    · exact .inr ⟨c, hc, command, event.complete, rfl, rfl⟩

/-- Of the host's actions only those that run an operation can add an event. -/
theorem hostAct_sink {s t : State} {a : HostAction} (h : hostAct s a = .next t) :
    t.sinkLog = s.sinkLog ∨
      ∃ c, (a = .issue c ∨ (a = .wait ∧ s.inFlight = some c)) ∧ StreamEmitted c s.sinkLog t := by
  rcases hostAct_next h with ⟨c, rfl, _, hr⟩ | ⟨_, _, _, rfl⟩ | ⟨rfl, hr⟩ | ⟨_, _, _, _, rfl⟩ | ⟨_, _, _, rfl⟩ |
    ⟨_, _, _, _, rfl⟩ | ⟨_, _, rfl⟩ | ⟨_, rfl⟩
  case inl =>
    rcases runInFlight_sink hr with kept | ⟨c', hc', emitted⟩
    · exact .inl kept
    · cases hc'
      exact .inr ⟨c, .inl rfl, emitted⟩
  case inr.inr.inl =>
    rcases runInFlight_sink hr with kept | ⟨c, hc, emitted⟩
    · exact .inl kept
    · exact .inr ⟨c, .inr ⟨rfl, hc⟩, emitted⟩
  all_goals exact .inl rfl

/-- Settles O43: a step is one action of the host, an action adds an event only by running a `STREAM`, and that `STREAM`
has completed with the results its event carries. -/
theorem sinkEventsOnlyFromStream : Obligations.SinkEventsOnlyFromStream := by
  intro s t hstep
  rw [step_eq] at hstep
  rcases hostAct_sink hstep with kept | ⟨c, source, command, event, done, idle⟩
  · exact .inl kept
  · exact .inr ⟨_, c, event.sinkLog, event.sinkValid, done, idle, source, command, event.dValid, event.family,
      event.xOk, rfl, rfl⟩

end Sys2Proof.Machine

/-! PROOFS of the statements about the reference encoders: the header round trip, the frame an encoder answers and where
it stops answering one, and that the decoder reads back what was encoded. -/

namespace Sys2Proof.Machine

/-! The header as bytes (R51, R141). -/

/-- A half is the header of its own two fields. -/
theorem headerOf_fields (h : Half) : headerOf (headerType h) (headerLength h) = h := by
  apply BitVec.eq_of_getLsbD_eq
  intro i hi
  rw [headerOf, headerType, headerLength, BitVec.ofNat_toNat, BitVec.getLsbD_append]
  by_cases low : i < 13
  · simp [low]
  · have type : i - 13 < 3 := by omega
    have bit : 13 + (i - 13) = i := by omega
    simp [low, type, bit]

theorem headerWord_encodeHeader_append (t : BitVec 3) (n : Nat) (rest : List Byte) :
    headerWord (encodeHeader t n ++ rest) = headerOf t n := halfOfBytes_bytesOfHalf _

/-- Settles O3: the two bytes of a header read back as the header, and a header and its two fields determine each
other. -/
theorem headerRoundTrip : Obligations.HeaderRoundTrip := by
  refine ⟨fun t n hn => ?_, fun h => ?_⟩
  · have word : headerWord (encodeHeader t n) = headerOf t n := halfOfBytes_bytesOfHalf _
    rw [word]
    exact ⟨headerType_headerOf t n, headerLength_headerOf t hn⟩
  · rw [encodeHeader, headerOf_fields]

theorem bytesOfHalf_append_length (word : Half) (p : List Byte) : (bytesOfHalf word ++ p).length = 2 + p.length := by
  rw [List.length_append, bytesOfHalf_length]

/-! A whole frame: the header that declares the frame's own length, and the bytes after it (R142, R143). -/

/-- The frame of a type over the bytes that follow its header. -/
def wholeFrame (type : BitVec 3) (frameBody : List Byte) : List Byte :=
  encodeHeader type (Config.hdrBytes + frameBody.length) ++ frameBody

theorem wholeFrame_length (type : BitVec 3) (frameBody : List Byte) :
    (wholeFrame type frameBody).length = 2 + frameBody.length := bytesOfHalf_append_length _ _

theorem encodeWhole_of_fits (type : BitVec 3) {frameBody : List Byte} (h : frameBody.length ≤ 8189) :
    encodeWhole type frameBody = .frame (wholeFrame type frameBody) := by
  rw [encodeWhole, if_neg (by simp only [Config.maxLen, Config.hdrBytes]; omega), wholeFrame]

theorem encodeWhole_of_overlong (type : BitVec 3) {frameBody : List Byte} (h : 8190 ≤ frameBody.length) :
    encodeWhole type frameBody = .fail .lengthExceeded := by
  rw [encodeWhole, if_pos (by simp only [Config.maxLen, Config.hdrBytes]; omega)]

/-- The bytes after the header decide: up to 8189 there is a frame, beyond there is the failure (R144). -/
theorem encodeWhole_cases (type : BitVec 3) (frameBody : List Byte) :
    (frameBody.length ≤ 8189 ∧ encodeWhole type frameBody = .frame (wholeFrame type frameBody)) ∨
      (8190 ≤ frameBody.length ∧ encodeWhole type frameBody = .fail .lengthExceeded) := by
  rcases Nat.lt_or_ge frameBody.length 8190 with h | h
  · exact .inl ⟨by omega, encodeWhole_of_fits type (by omega)⟩
  · exact .inr ⟨h, encodeWhole_of_overlong type h⟩

theorem encodeWhole_fail_iff (type : BitVec 3) (frameBody : List Byte) :
    encodeWhole type frameBody = .fail .lengthExceeded ↔ 8190 ≤ frameBody.length := by
  rcases encodeWhole_cases type frameBody with ⟨fits, e⟩ | ⟨overlong, e⟩
  · simp only [e, reduceCtorEq, false_iff]
    omega
  · simp only [e, overlong]

theorem encodeWhole_frame_iff (type : BitVec 3) (frameBody : List Byte) :
    (∃ frame, encodeWhole type frameBody = .frame frame) ↔ frameBody.length ≤ 8189 := by
  rcases encodeWhole_cases type frameBody with ⟨fits, e⟩ | ⟨overlong, e⟩
  · simp only [e, fits, EncodeResult.frame.injEq, exists_eq']
  · simp only [e, reduceCtorEq, exists_false, false_iff]
    omega

/-- The header of a frame within the limit holds the type and the frame's own length. -/
theorem wholeFrame_header (type : BitVec 3) {frameBody : List Byte} (h : frameBody.length ≤ 8189) :
    headerLength (headerWord (wholeFrame type frameBody)) = (wholeFrame type frameBody).length ∧
      headerType (headerWord (wholeFrame type frameBody)) = type := by
  rw [wholeFrame_length, wholeFrame, headerWord_encodeHeader_append]
  exact ⟨headerLength_headerOf type (by simp only [Config.hdrBytes]; omega), headerType_headerOf type _⟩

/-! What each encoder answers inside and outside its precondition (R142, R143, R145). -/

theorem encodeControlItem_eq {codes : Config.CodeTable} {type : BitVec 3} {code : Half} (hf : familyBit type = false)
    (hk : code ∈ codes.known) (p : List Byte) :
    encodeControlItem codes type code p = encodeWhole type (bytesOfHalf code ++ p) := by
  rw [encodeControlItem, hf, decide_eq_true hk]
  rfl

theorem encodeControlItem_refused {codes : Config.CodeTable} {type : BitVec 3} {code : Half}
    (h : familyBit type = true ∨ code ∉ codes.known) (p : List Byte) :
    encodeControlItem codes type code p = .refused := by
  rcases h with hf | hk
  · rw [encodeControlItem, hf, Bool.true_or, cond_true]
  · rw [encodeControlItem, decide_eq_false hk, Bool.not_false, Bool.or_true, cond_true]

theorem encodeDataItem_eq {type : BitVec 3} (hf : familyBit type = true) (payload : List Byte) :
    encodeDataItem type payload = encodeWhole type payload := by
  rw [encodeDataItem, hf, cond_true]

theorem encodeDataItem_refused {type : BitVec 3} (hf : familyBit type = false) (payload : List Byte) :
    encodeDataItem type payload = .refused := by
  rw [encodeDataItem, hf, cond_false]

/-- Settles O48. -/
theorem encodersRefuseOutsideDomain : Obligations.EncodersRefuseOutsideDomain := fun _ _ _ p =>
  ⟨fun h => encodeControlItem_refused h p, fun h => encodeDataItem_refused h p⟩

/-- Settles O47: both encoders meet the one limit of 8189 bytes after the header, of which the item code is two. -/
theorem encodersRejectOverlong : Obligations.EncodersRejectOverlong := by
  intro codes type code p
  refine ⟨fun hf hk => ?_, fun hf => ?_⟩
  · rw [encodeControlItem_eq hf hk, encodeWhole_fail_iff, encodeWhole_frame_iff,
      bytesOfHalf_append_length]
    constructor <;> omega
  · rw [encodeDataItem_eq hf]
    exact ⟨encodeWhole_fail_iff type p, encodeWhole_frame_iff type p⟩

/-! The frames an encoder answers (R150). -/

/-- Whichever encoder answered a frame, it is the whole frame over some bytes within the limit. -/
theorem eq_wholeFrame_of_encoded {codes : Config.CodeTable} {type : BitVec 3} {code : Half} {p frame : List Byte}
    (h : encodeControlItem codes type code p = .frame frame ∨ encodeDataItem type p = .frame frame) :
    ∃ frameBody, frameBody.length ≤ 8189 ∧ frame = wholeFrame type frameBody := by
  have whole : ∃ frameBody, encodeWhole type frameBody = .frame frame := by
    rcases h with control | data
    · by_cases outside : familyBit type = true ∨ code ∉ codes.known
      · rw [encodeControlItem_refused outside] at control
        cases control
      · obtain ⟨hf, hk⟩ := not_or.1 outside
        exact ⟨_, encodeControlItem_eq (Bool.eq_false_of_not_eq_true hf) (not_not.1 hk) p ▸ control⟩
    · cases hf : familyBit type with
      | false =>
        rw [encodeDataItem_refused hf] at data
        cases data
      | true => exact ⟨p, encodeDataItem_eq hf p ▸ data⟩
  obtain ⟨frameBody, e⟩ := whole
  rcases encodeWhole_cases type frameBody with ⟨fits, answer⟩ | ⟨-, answer⟩
  · cases answer.symm.trans e
    exact ⟨frameBody, fits, rfl⟩
  · cases answer.symm.trans e

/-- Settles O49: the header of a whole frame within the limit loses no bit of the length. -/
theorem encodedLengthIsDeclared : Obligations.EncodedLengthIsDeclared := by
  intro codes type code p frame h
  obtain ⟨frameBody, fits, rfl⟩ := eq_wholeFrame_of_encoded h
  exact wholeFrame_header type fits

/-! The largest frames (R149). -/

theorem encodeHeader_largest_setControlItem : encodeHeader 0b000 8191 = [0xFF, 0x1F] := rfl

theorem encodeHeader_largest_ack : encodeHeader 0b011 8191 = [0xFF, 0x7F] := rfl

theorem encodeHeader_largest_dataItem3 : encodeHeader 0b111 8191 = [0xFF, 0xFF] := rfl

/-- The largest frame of a type begins with the two bytes of its header at 8191. -/
theorem encodeWhole_largest {type : BitVec 3} {b0 b1 : Byte} (header : encodeHeader type 8191 = [b0, b1])
    {frameBody : List Byte} (h : frameBody.length = 8189) :
    encodeWhole type frameBody = .frame (b0 :: b1 :: frameBody) := by
  rw [encodeWhole_of_fits type h.le, wholeFrame, h, header]
  rfl

/-- Settles O46: with the item code, 8187 bytes of parameters fill the limit and one more passes it. -/
theorem encoderBoundary : Obligations.EncoderBoundary := by
  intro codes code p q hk hp hq
  have full : (bytesOfHalf code ++ p).length = 8189 := by rw [bytesOfHalf_append_length, hp]
  have beyond : (bytesOfHalf code ++ q).length = 8190 := by rw [bytesOfHalf_append_length, hq]
  refine ⟨fun type hf => ⟨⟨wholeFrame type (bytesOfHalf code ++ p), ?_, ?_⟩, ?_⟩, ?_, ?_, fun body hbody => ?_⟩
  · rw [encodeControlItem_eq hf hk, encodeWhole_of_fits type full.le]
  · rw [wholeFrame_length, full]
  · rw [encodeControlItem_eq hf hk, encodeWhole_of_overlong type beyond.ge]
  · exact ⟨_, (encodeControlItem_eq rfl hk p).trans (encodeWhole_largest encodeHeader_largest_setControlItem full)⟩
  · exact ⟨_, (encodeControlItem_eq rfl hk p).trans (encodeWhole_largest encodeHeader_largest_ack full)⟩
  · exact ⟨_, (encodeDataItem_eq rfl body).trans (encodeWhole_largest encodeHeader_largest_dataItem3 hbody)⟩

/-! The decoder on an encoded frame (R146, R147). -/

/-- The bytes after the header begin with field2, and the frame's tail is what follows it. -/
theorem wholeFrame_fields (type : BitVec 3) (word : Half) (p : List Byte) :
    field2 (wholeFrame type (bytesOfHalf word ++ p)) = word ∧
      frameTail (wholeFrame type (bytesOfHalf word ++ p)) = p :=
  ⟨halfOfBytes_bytesOfHalf word, rfl⟩

theorem four_le_wholeFrame_length (type : BitVec 3) (word : Half) (p : List Byte) :
    4 ≤ (wholeFrame type (bytesOfHalf word ++ p)).length := by
  rw [wholeFrame_length, bytesOfHalf_append_length]
  omega

/-- A whole frame within the limit passes the header and length checks as a message of its type (R82, R83). -/
theorem decodeFrame_wholeFrame (codes : Config.CodeTable) (type : BitVec 3) {frameBody : List Byte}
    (h : frameBody.length ≤ 8189) :
    decodeFrame codes (wholeFrame type frameBody) =
      messageFrame codes type (wholeFrame type frameBody).length (wholeFrame type frameBody) := by
  obtain ⟨length, typeField⟩ := wholeFrame_header type h
  rw [decodeFrame_of_header codes _ (by rw [wholeFrame_length]; omega), length, typeField]

/-- Settles O44: the frame passes the length checks, and its field2 is the known code it was made from. -/
theorem controlItemRoundTrip : Obligations.ControlItemRoundTrip := by
  intro codes type code p hf hk hp
  have fits : (bytesOfHalf code ++ p).length ≤ 8189 := by rw [bytesOfHalf_append_length]; omega
  obtain ⟨fieldEq, tailEq⟩ := wholeFrame_fields type code p
  have long := four_le_wholeFrame_length type code p
  refine ⟨_, (encodeControlItem_eq hf hk p).trans (encodeWhole_of_fits type fits), ?_⟩
  rw [decodeFrame_wholeFrame codes type fits, messageFrame_knownCode long hf (fieldEq.symm ▸ hk), fieldEq, tailEq]

/-- Settles O45: the frame passes the length checks, and its field2 is the sequence number it was made from. -/
theorem dataItemRoundTrip : Obligations.DataItemRoundTrip := by
  intro codes type seq p hf hp
  have fits : (bytesOfHalf seq ++ p).length ≤ 8189 := by rw [bytesOfHalf_append_length]; omega
  obtain ⟨fieldEq, tailEq⟩ := wholeFrame_fields type seq p
  have long := four_le_wholeFrame_length type seq p
  refine ⟨_, (encodeDataItem_eq hf _).trans (encodeWhole_of_fits type fits), ?_⟩
  rw [decodeFrame_wholeFrame codes type fits, messageFrame_dataItem codes long hf, fieldEq, tailEq]

end Sys2Proof.Machine

/-! PROOFS of the statements about the error causes: what `DECODE` records for every input, and how a `STREAM` ends that
gives no samples. -/

namespace Sys2Proof.Machine

/-! The decode of `IN`, by the check its frame passes or fails (R162, R163). -/

/-- The three framing errors are together the failure of the length checks. -/
theorem not_holdsFrame_iff (s : State) :
    ¬ s.HoldsFrame ↔ s.inLen.toNat < 2 ∨ headerLength s.inHeader ≠ s.inLen.toNat ∨ s.inLen.toNat < 4 := by
  constructor
  · intro fails
    by_contra passes
    exact fails ⟨by omega, by omega⟩
  · rintro fails ⟨enough, length⟩
    omega

theorem decodeInput_of_holdsFrame {s : State} (h : s.HoldsFrame) :
    s.decodeInput = s.decodeMessage (headerType s.inHeader) s.inLen.toNat :=
  Host.Outcome.next.inj (exec_decode_of_holdsFrame h)

theorem decodeInput_framingError {s : State} (h : ¬ s.HoldsFrame) : DecodedInvalid s.decodeInput 1 := by
  by_cases hshort : s.inLen.toNat < 2
  · rw [State.decodeInput, decodeFrame_short _ _ ((inBytes_length s).symm ▸ hshort)]
    exact raiseInvalid_decodedInvalid s .framingError (by decide)
  · have lengths := ((not_holdsFrame_iff s).1 h).resolve_left hshort
    have message := Host.Outcome.next.inj (exec_decode_of_header s (Nat.le_of_not_lt hshort))
    exact message ▸ decodeMessage_framingError s _ lengths

theorem decodeInput_unknownCode {s : State} (h : s.HoldsFrame) (ht : familyBit (headerType s.inHeader) = false)
    (hk : s.inField2 ∉ Config.codes.known) : DecodedInvalid s.decodeInput 2 :=
  decodeInput_of_holdsFrame h ▸ decodeMessage_unknownCode h.enough ht hk

theorem decodeInput_knownCode {s : State} (h : s.HoldsFrame) (ht : familyBit (headerType s.inHeader) = false)
    (hk : s.inField2 ∈ Config.codes.known) :
    DecodedAs s s.decodeInput (headerType s.inHeader) s.inField2 0 :=
  decodeInput_of_holdsFrame h ▸ decodeMessage_knownCode h.enough (inLen_le_of_holdsFrame h) ht hk

/-- Everything a decode of `IN` can record: the cases leave no input out. -/
theorem decodeInput_status_cases (s : State) :
    (¬ s.HoldsFrame ∧ DecodedInvalid s.decodeInput 1) ∨
      (s.HoldsFrame ∧ familyBit (headerType s.inHeader) = false ∧ s.inField2 ∉ Config.codes.known ∧
        DecodedInvalid s.decodeInput 2) ∨
      (s.HoldsFrame ∧ (familyBit (headerType s.inHeader) = true ∨ s.inField2 ∈ Config.codes.known) ∧
        s.decodeInput.dValid = true ∧ s.decodeInput.dCause = 0) := by
  by_cases hframe : s.HoldsFrame
  · cases hfamily : familyBit (headerType s.inHeader) with
    | true =>
      have decoded := decodeInput_dataItem hframe hfamily
      exact .inr (.inr ⟨hframe, .inl rfl, decoded.dValid, decoded.dCause⟩)
    | false =>
      by_cases hknown : s.inField2 ∈ Config.codes.known
      · have decoded := decodeInput_knownCode hframe hfamily hknown
        exact .inr (.inr ⟨hframe, .inr hknown, decoded.dValid, decoded.dCause⟩)
      · exact .inr (.inl ⟨hframe, rfl, hknown, decodeInput_unknownCode hframe hfamily hknown⟩)
  · exact .inl ⟨hframe, decodeInput_framingError hframe⟩

/-- Settles O23: each input falls in one case, whose status is known and which refutes the conditions of the others. -/
theorem decodeStatusIsExact : Obligations.DecodeStatusIsExact := by
  intro s
  refine ⟨_, exec_decode_eq s, putDecode_keeps s _, ?_⟩
  rw [← not_holdsFrame_iff]
  rcases decodeInput_status_cases s with ⟨hframe, invalid, cause⟩ | ⟨hframe, hfamily, hunknown, invalid, cause⟩ |
    ⟨hframe, haccepted, valid, cause⟩
  · simp [hframe, invalid, cause]
  · simp [hframe, hfamily, hunknown, invalid, cause]
  · have notRefused : ¬ (familyBit (headerType s.inHeader) = false ∧ s.inField2 ∉ Config.codes.known) := by
      rintro ⟨hfamily, hunknown⟩
      exact haccepted.elim (fun h => Bool.false_ne_true (hfamily.symm.trans h)) hunknown
    simp [hframe, haccepted, notRefused, valid, cause]

/-! A `STREAM` that ends without samples (R132, R172). -/

theorem DecodedInvalid.of_kept {t u : State} {cause : BitVec 3} (h : DecodedInvalid t cause) (k : DecoderKept t u) :
    DecodedInvalid u cause :=
  ⟨k.dValid.trans h.dValid, k.dCause.trans h.dCause⟩

/-- From `s` to `t` no sample was extracted, for `cause`: no event was emitted, and the input, the host's side and the
configured width are kept. -/
def EndsWithoutSamples (s t : State) (cause : BitVec 3) : Prop :=
  ExtractStatus t cause ∧ SinkKept s t ∧ HostSideKept s t ∧ t.sampleWidthCfg = s.sampleWidthCfg

/-- The decode before it writes none of what the ending speaks of (R80). -/
theorem EndsWithoutSamples.after_decode {s t : State} {cause : BitVec 3}
    (h : EndsWithoutSamples s.decodeInput t cause) : EndsWithoutSamples s t cause := by
  obtain ⟨status, sink, host, widthCfg⟩ := h
  have frame : DecodeFrame s s.decodeInput := putDecode_keeps s _
  exact ⟨status, ⟨sink.sinkLog.trans frame.sink.sinkLog, sink.sinkValid.trans frame.sink.sinkValid⟩,
    frame.host.trans host, widthCfg.trans frame.widthCfg⟩

/-- The extraction step is not reached after an invalid decode or a control-item frame (R132 step 3). -/
theorem streamSecond_skipped {s : State} (h : s.dValid = false ∨ familyBit s.msgType = false) :
    EndsWithoutSamples s s.streamSecond 0 := by
  rcases streamSecond_cases s with ⟨valid, family, _⟩ | ⟨valid, family, _⟩ | ⟨_, e⟩
  · simp [valid, family] at h
  · simp [valid, family] at h
  · rw [e]
    exact ⟨⟨rfl, rfl⟩, ⟨rfl, rfl⟩, .of_fields, rfl⟩

/-- The extraction step fails on a data-item frame at an unsupported width (R111, R132 step 2). -/
theorem streamSecond_unsupported {s : State} (valid : s.dValid = true) (family : familyBit s.msgType = true)
    (width : byteWidth? s.sampleWidthCfg.toNat = none) : EndsWithoutSamples s s.streamSecond 3 := by
  rcases streamSecond_cases s with ⟨_, _, w, supported, _⟩ | ⟨_, _, _, e⟩ | ⟨skipped, _⟩
  · cases width.symm.trans supported
  · rw [e]
    exact ⟨raiseFail_extractStatus s (by decide), ⟨rfl, rfl⟩, .of_fields, rfl⟩
  · simp [valid, family] at skipped

/-- Settles O36: in each case the decode fixes the status that the second step branches on, and the second step keeps the
decoder results. -/
theorem streamWithoutSamples : Obligations.StreamWithoutSamples := by
  intro s
  have decoderKept := (streamSecond_keeps s.decodeInput).decoder
  refine ⟨fun hframe hfamily hwidth => ?dataItem, fun hframe hfamily hknown => ?controlItem,
    fun hframe hfamily hunknown => ?unknownCode, fun hframe => ?framingError⟩
  case dataItem =>
    have decoded := decodeInput_dataItem hframe hfamily
    have width : byteWidth? s.decodeInput.sampleWidthCfg.toNat = none := (putDecode_keeps s _).widthCfg.symm ▸ hwidth
    exact ⟨_, exec_stream_eq s, decoded.of_kept decoderKept,
      (streamSecond_unsupported decoded.dValid (decoded.msgType ▸ hfamily) width).after_decode⟩
  case controlItem =>
    have decoded := decodeInput_knownCode hframe hfamily hknown
    exact ⟨_, exec_stream_eq s, decoded.of_kept decoderKept,
      (streamSecond_skipped (.inr (decoded.msgType ▸ hfamily))).after_decode⟩
  case unknownCode =>
    have decoded := decodeInput_unknownCode hframe hfamily hunknown
    exact ⟨_, exec_stream_eq s, decoded.of_kept decoderKept, (streamSecond_skipped (.inl decoded.dValid)).after_decode⟩
  case framingError =>
    have decoded := decodeInput_framingError hframe
    exact ⟨_, exec_stream_eq s, decoded.of_kept decoderKept, (streamSecond_skipped (.inl decoded.dValid)).after_decode⟩

end Sys2Proof.Machine

/-! PROOFS of the statements about reset and the hazards of the host's ports: what a busy block refuses, reset at any
time, what a read returns, and `STREAM` as the host's own `DECODE`, copy and `EXTRACT`. -/

namespace Sys2Proof.Machine

/-! `STREAM` by the host's own commands (R198). -/

/-- Step 2 of `STREAM` runs on every valid data-item frame, at a supported width or not (R132). -/
theorem streamSecond_dataItem {s : State} (valid : s.dValid = true) (family : familyBit s.msgType = true) :
    s.streamSecond = s.extractBody := by
  rw [State.streamSecond, valid, family]
  rfl

/-- `BODY` fits `IN`: a host that loads it back has it as the input. -/
theorem hostLoad_bodyBytes_inBytes (s : State) : (s.hostLoad s.bodyBytes).inBytes = s.bodyBytes := by
  apply hostLoad_inBytes
  have := s.bodyLen.isLt
  rw [bodyBytes_length]
  omega

/-- Step 2 of `STREAM` gives the samples of an `EXTRACT` on `IN` holding the body. -/
theorem extractBody_sameExtract (s : State) :
    SameExtract s.extractBody
      ((s.hostLoad s.bodyBytes).putExtract
        (extractPayload s.sampleWidthCfg.toNat (s.hostLoad s.bodyBytes).inBytes)) := by
  rw [hostLoad_bodyBytes_inBytes]
  exact (putExtract_sameExtract s _ _ _).of_kept (extractBody_keeps s) .of_fields

/-- Settles O37: `STREAM` first decodes as `DECODE` does, its second step keeps the decoder results, and both extractions
take the same operand and the same payload. -/
theorem streamIsDecodeCopyExtract : Obligations.StreamIsDecodeCopyExtract := by
  intro s d x t hd valid family hx ht
  rw [exec_decode_eq] at hd
  rw [exec_extract_eq] at hx
  rw [exec_stream_eq] at ht
  cases hd
  cases hx
  cases ht
  have same := extractBody_sameExtract s.decodeInput
  have width : s.decodeInput.sampleWidthCfg = s.sampleWidthCfg := (putDecode_keeps s _).widthCfg
  rw [← streamSecond_dataItem valid family, width] at same
  exact ⟨(streamSecond_keeps s.decodeInput).decoder, same.xOk, same.xCause, same.results⟩

/-! The read port (R27, R36, R196). -/

theorem statusPort_idle {s : State} (idle : s.busy = false) (v : Word) : s.statusPort v = some v := by
  rw [State.statusPort, idle, cond_false]

theorem decoderPort_valid {s : State} (idle : s.busy = false) (valid : s.dValid = true) (v : Word) :
    s.decoderPort v = some v := by
  rw [State.decoderPort, idle, valid]
  rfl

theorem unpackerPort_ok {s : State} (idle : s.busy = false) (ok : s.xOk = true) (v : Word) :
    s.unpackerPort v = some v := by
  rw [State.unpackerPort, idle, ok]
  rfl

theorem portValue_bodyByte {s : State} {a : BitVec 13} {b : Byte} (idle : s.busy = false) (valid : s.dValid = true)
    (below : a.toNat < s.bodyLen.toNat) (cell : s.bodyByte? a.toNat = some b) :
    s.portValue (.bodyByte a) = some (b.setWidth 32) := by
  rw [State.portValue, if_pos below, cell, Option.bind_some, decoderPort_valid idle valid]

theorem portValue_sample {s : State} {i : Half} {w : Word} (idle : s.busy = false) (ok : s.xOk = true)
    (below : i.toNat < s.sampleCount.toNat) (cell : s.sample? i.toNat = some w) :
    s.portValue (.sample i) = some w := by
  rw [State.portValue, if_pos below, cell, Option.bind_some, unpackerPort_ok idle ok]

/-- Where an output has a value, a read returns it and no draw. -/
theorem hostReadPort_hostRead {s : State} {p : Port} {v : Word} (h : s.portValue p = some v) :
    (s.hostReadPort p).hostRead = v := by
  rw [State.hostReadPort, recordRead_hostRead, h, Option.getD_some]

theorem step_read (s : State) (l : List HostAction) (p : Port) :
    step (s.withScript (.read p :: l)) = .next ((s.withScript l).hostReadPort p) := rfl

/-- Settles O18, by the groups of R196: outputs that always mean something, the statuses of an idle block, the decoder
results of a valid decode, the samples of a successful extraction. -/
theorem readReturnsResults : Obligations.ReadReturnsResults := by
  intro s script p
  refine ⟨_, step_read s script p, rfl, ?busy, ?done, ?dValid, ?dCause, ?xOk, ?xCause, ?msgType, ?family, ?itemCode,
    ?seqNum, ?bodyLen, ?bodyByte, ?sampleCount, ?sample⟩
  case busy | done =>
    rintro rfl
    exact hostReadPort_hostRead rfl
  case dValid | dCause | xOk | xCause =>
    rintro rfl idle
    exact hostReadPort_hostRead (statusPort_idle idle _)
  case msgType | family | itemCode | seqNum | bodyLen =>
    rintro rfl idle valid
    exact hostReadPort_hostRead (decoderPort_valid idle valid _)
  case bodyByte =>
    rintro a b rfl idle valid below cell
    exact hostReadPort_hostRead (portValue_bodyByte idle valid below cell)
  case sampleCount =>
    rintro rfl idle ok
    exact hostReadPort_hostRead (unpackerPort_ok idle ok _)
  case sample =>
    rintro i w rfl idle ok below cell
    exact hostReadPort_hostRead (portValue_sample idle ok below cell)

/-! A busy block (R194, R195). -/

/-- The name under which a busy block refuses an action, if it does: `hostAct_of_busyRefusal` ties it to `hostAct`. -/
def busyRefusal : HostAction → Option Refusal
  | .issue _ | .present _ => some .commandWhileBusy
  | .writeByte _ _ | .writeLen _ | .load _ => some .inputWriteWhileBusy
  | .wait | .read _ | .reset => none

theorem hostAct_of_busyRefusal {s : State} {a : HostAction} {r : Refusal} (busy : s.busy = true)
    (h : busyRefusal a = some r) : hostAct s a = .refused r := by
  cases a with
  | issue | present | writeByte | writeLen | load =>
    cases h
    rw [hostAct, busy, cond_true]
  | wait | read | reset => cases h

/-- Settles O12: a step is the host's next action, and each of the five is one that a busy block refuses. -/
theorem busyBlockRefusesHost : Obligations.BusyBlockRefusesHost := by
  intro s script busy
  have refused {a : HostAction} {r : Refusal} (h : busyRefusal a = some r) :
      step (s.withScript (a :: script)) = .refused r := by
    rw [step_withScript_cons]
    exact hostAct_of_busyRefusal (s := s.withScript script) busy h
  exact ⟨fun _ => refused rfl, fun _ => refused rfl, fun _ _ => refused rfl, fun _ => refused rfl,
    fun _ => refused rfl⟩

/-! Reset (R190, R191). -/

@[simp] theorem resetBlock_busy (s : State) : s.resetBlock.busy = false := rfl

theorem step_reset (s : State) (l : List HostAction) :
    step (s.withScript (.reset :: l)) = .next (s.withScript l).resetBlock := rfl

/-- Settles O14: the action asks nothing of the state, and its update gives each field named. -/
theorem resetAnyTime : Obligations.ResetAnyTime := by
  intro s script
  exact ⟨_, step_reset s script, resetBlock_dValid _, resetBlock_dCause _, resetBlock_xOk _, resetBlock_xCause _,
    resetBlock_sampleWidthCfg _, resetBlock_busy _, resetBlock_sinkValid _, resetBlock_sinkLog _, resetBlock_script _⟩

end Sys2Proof.Machine

/-! PROOF of the statement about what the decoders accept: the answer of each encoding space's rule is a well-formed
instruction of that space, and it consumes as many bytes as every encoding of the space has. -/

namespace Sys2Proof

/-! The size of an encoding is the size of its encoding space. -/

/-- The bytes an instruction takes in an encoding space: `encode_length` ties it to the encoder, `decode_ok_cases` to the
decoder. -/
def Level.encodedBytes : Level → Nat
  | .command => 3
  | .header => 2
  | .width => 2

theorem encode_length (i : Instr) : (encode i).length = i.level.encodedBytes := by
  cases i with
  | setControlItem n => exact Laws.EncodedSize.setControlItem n
  | currentControlItem n => exact Laws.EncodedSize.currentControlItem n
  | controlItemRange n => exact Laws.EncodedSize.controlItemRange n
  | ack n => exact Laws.EncodedSize.ack n
  | dataItem0 n => exact Laws.EncodedSize.dataItem0 n
  | dataItem1 n => exact Laws.EncodedSize.dataItem1 n
  | dataItem2 n => exact Laws.EncodedSize.dataItem2 n
  | dataItem3 n => exact Laws.EncodedSize.dataItem3 n
  | extract8 => exact Laws.EncodedSize.extract8
  | extract16 => exact Laws.EncodedSize.extract16
  | extract24 => exact Laws.EncodedSize.extract24
  | extract32 => exact Laws.EncodedSize.extract32
  | decode => exact Laws.EncodedSize.decode
  | extract n => exact Laws.EncodedSize.extract n
  | stream => exact Laws.EncodedSize.stream
  | cfgw n => exact Laws.EncodedSize.cfgw n

/-! What the rule of each encoding space answers. -/

/-- The length field cannot hold a length that does not fit it (R61). -/
theorem decodeHeader_wellFormed (h : Half) : (decodeHeader h).WellFormed ∧ (decodeHeader h).level = .header := by
  have fits : lengthFits (headerLength h) = true := (lengthFits_iff _).2 (headerLength_le h)
  rw [decodeHeader]
  rcases messageInstr_cases (headerType h) (headerLength h) with e | e | e | e | e | e | e | e <;> rw [e] <;>
    exact ⟨fits, rfl⟩

theorem decodeWidth_wellFormed {b : Half} {i : Instr} (h : decodeWidth b = .ok i) : i.WellFormed ∧ i.level = .width := by
  rcases decodeWidth_ok_cases h with ⟨-, rfl⟩ | ⟨-, rfl⟩ | ⟨-, rfl⟩ | ⟨-, rfl⟩ <;> exact ⟨rfl, rfl⟩

/-- A `bit_width` read from 16 bits fits them (R14). -/
theorem decodeCommand_wellFormed (c : BitVec 2) (b : Half) :
    (decodeCommand c b).WellFormed ∧ (decodeCommand c b).level = .command := by
  have fits : bitWidthFits b.toNat = true := (bitWidthFits_iff _).2 (Nat.le_of_lt_succ b.isLt)
  rcases decodeCommand_cases c b with e | e | e | e <;> rw [e]
  · exact ⟨rfl, rfl⟩
  · exact ⟨fits, rfl⟩
  · exact ⟨rfl, rfl⟩
  · exact ⟨fits, rfl⟩

/-- Everything a decoder can accept: the bytes of its space's fixed part, read by the space's rule, before the rest. -/
theorem decode_ok_cases {l : Level} {bytes rest : List Byte} {i : Instr} (h : decode l bytes = .ok (i, rest)) :
    ∃ front, bytes = front ++ rest ∧ front.length = l.encodedBytes ∧
      ((l = .command ∧ ∃ c b, i = decodeCommand c b) ∨ (l = .header ∧ ∃ w, i = decodeHeader w) ∨
        (l = .width ∧ ∃ b, decodeWidth b = .ok i)) := by
  unfold decode at h
  split at h
  case h_1 c b0 b1 tail =>
    cases h
    exact ⟨[c, b0, b1], rfl, rfl, .inl ⟨rfl, _, _, rfl⟩⟩
  case h_2 b0 b1 tail =>
    cases h
    exact ⟨[b0, b1], rfl, rfl, .inr (.inl ⟨rfl, _, rfl⟩)⟩
  case h_3 b0 b1 tail =>
    split at h
    next j hj =>
      cases h
      exact ⟨[b0, b1], rfl, rfl, .inr (.inr ⟨rfl, _, hj⟩)⟩
    next => cases h
  case h_4 => cases h

/-- Settles O2, by the encoding space: its rule answers only well-formed instructions of the space, and all encodings of a
space have the size of its fixed part. -/
theorem decodedInstructionIsWellFormed : Obligations.DecodedInstructionIsWellFormed := by
  intro l bytes rest i h
  obtain ⟨front, split, size, rule⟩ := decode_ok_cases h
  have accepted : i.WellFormed ∧ i.level = l := by
    rcases rule with ⟨rfl, c, b, rfl⟩ | ⟨rfl, w, rfl⟩ | ⟨rfl, b, hb⟩
    · exact decodeCommand_wellFormed c b
    · exact decodeHeader_wellFormed w
    · exact decodeWidth_wellFormed hb
  obtain ⟨wellFormed, level⟩ := accepted
  exact ⟨wellFormed, level, front, split, by rw [size, encode_length, level]⟩

end Sys2Proof
